-- ==== Sys2Proof/Word.lean ====
section
/-! DEFINITION. The machine's word types (spec/00_scope.md R7, R8). -/

namespace Sys2Proof

/-- A byte: an 8-bit register, a memory cell, an immediate (R7). -/
abbrev Byte := BitVec 8

/-- A word: PC, SP, a register pair, an address (R7). -/
abbrev Word := BitVec 16

end Sys2Proof
end

