-- ==== Sys2Proof/Config.lean ====
section
/-! DEFINITION. What a construction of the machine fixes (spec/00_scope.md R5), and the free values. -/

namespace Sys2Proof

/-- `UNDEFINED_OPCODE_POLICY` (R5, R296): what the eleven unassigned opcodes do. -/
inductive UndefinedPolicy where
  | nop
  | fault
  deriving DecidableEq, Repr

/-- `KEY_IRQ` (R5, R375, D24): when the host's key presses call `Request(4)`.
`selected`: at every `keyDown` of a key whose group is selected (R5's default).
`free`: exactly where the host's script says so, an input event between any two ticks.
`never`: not at all. -/
inductive KeyIrq where
  | selected
  | free
  | never
  deriving DecidableEq, Repr

/-- The parameters of R5 that a construction chooses. None changes during a run. `audioStepped` is how the
audio collaborator is driven: by a call `Audio.step(4)` in every tick (D32), or, where false, by its own
clock with no call from the tick (R374) (log 16). `hdma5RoundsUp` is how HDMA5 counts a block that is partly
copied: not at all, by the integer division of R348 in the formula R44 and R348 share, or, where true, as one
whole block still to copy, by R44's words "rounding a partly copied block up" (log 13). -/
structure Params where
  enhanced        : Bool
  bootImage       : Option (List Byte)
  undefinedPolicy : UndefinedPolicy
  keyIrq          : KeyIrq
  audioStepped    : Bool
  hdma5RoundsUp   : Bool
  deriving DecidableEq, Repr

/-- The parameters `State.reset` takes (DESIGN CHOICE, log 3): the base machine, no boot image,
R5's defaults for the two policies, D32's calls to the audio collaborator, and R348's integer division. -/
def Params.default : Params :=
  { enhanced := false, bootImage := none, undefinedPolicy := .nop, keyIrq := .selected
    audioStepped := true, hdma5RoundsUp := false }

/-- The eight keys (R60), in the order of their bits: the direction pad, then the buttons. -/
inductive Key where
  | right | left | up | down
  | a | b | select | start
  deriving DecidableEq, Repr

/-- What the host may do between two ticks (R375). -/
inductive HostEvent where
  | keyDown (k : Key)
  | keyUp (k : Key)
  | requestController
  deriving DecidableEq, Repr

/-- A host event and the elapsed-cycle count from which it is due (log 8). -/
structure HostInput where
  due   : Nat
  event : HostEvent
  deriving DecidableEq, Repr

/-- The calls THE CORE makes that nothing inside it reads (R76, R95, R357, R358, R374, D32). -/
inductive HostCall where
  | audioWrite (now : Nat) (addr : Word) (v : Byte)
  | audioStep (now cycles : Nat)
  | romWrite (addr : Word) (v : Byte)
  | cartRamWrite (addr : Word) (v : Byte)
  | compositeLine (ly : Byte)
  | frameReady (elapsedCycles : Nat)
  deriving DecidableEq, Repr

/-- The three agents that make bus accesses (R70). -/
inductive Agent where
  | cpu
  | oamDma
  | hdma
  deriving DecidableEq, Repr

/-- `SPRITE_M3_COST` (R5, R354, D22): OPEN in the spec, any number 0..19 of cycles a sprite.
A free value: no body, so nothing in Lean knows which (log 4). -/
opaque Config.spriteM3Cost : Fin 20

/-- The byte `Audio.read` answers (R95): an oracle draw, any byte. A free value of what the audio
collaborator has been told so far, of the time, of the agent that reads and of the address: no two
draws of one run share all four (log 5). -/
opaque Config.audioRead : List HostCall → Nat → Agent → Word → Byte

end Sys2Proof
end

