-- ==== Sys2Proof/Syntax.lean ====
section
/-! DEFINITION. The instructions (spec/30_encoding.md): one constructor of `Instr` for each row of
spec/opcode_table.json, with the row's immediates as arguments; and the names of the operand fields of
R122. -/

namespace Sys2Proof

/-- The seven registers a 3-bit field selects (R21). -/
inductive Reg8 where
  | b | c | d | e | h | l | a
  deriving DecidableEq, Repr

/-- What a 3-bit `r` field selects (R122): a register, or code 6, the memory byte at HL. -/
inductive Operand8 where
  | reg (r : Reg8)
  | mem
  deriving DecidableEq, Repr

/-- The 2-bit field `rp` (R22, R122). -/
inductive Pair where
  | bc | de | hl | sp
  deriving DecidableEq, Repr

/-- The 2-bit field `rp2` (R22, R122). -/
inductive StackPair where
  | bc | de | hl | af
  deriving DecidableEq, Repr

/-- The 2-bit condition field `cc` (R122, R270). -/
inductive Cond where
  | nz | z | nc | c
  deriving DecidableEq, Repr

/-- The 3-bit field `alu` (R122). -/
inductive AluOp where
  | add | adc | sub | sbc | and | xor | or | cp
  deriving DecidableEq, Repr

/-- The 3-bit field `rot` (R122). -/
inductive RotOp where
  | rlc | rrc | rl | rr | sla | sra | swap | srl
  deriving DecidableEq, Repr

/-- The 3-bit bit index `b` of BIT, RES, SET (R122). -/
inductive BitIdx where
  | b0 | b1 | b2 | b3 | b4 | b5 | b6 | b7
  deriving DecidableEq, Repr

/-- The eight targets of RST (R281). -/
inductive RstTarget where
  | t00 | t08 | t10 | t18 | t20 | t28 | t30 | t38
  deriving DecidableEq, Repr

/-- An instruction of the primary or of the extended opcode map (R125, R127). `n` is an unsigned
immediate byte, `e` the raw byte of a signed displacement, `nn` a 16-bit immediate (R123). The rows
with an immediate stand first, each group in the table's order. -/
inductive Instr where
  | ldBCImm16 (nn : Word)
  | ldBImm (n : Byte)
  | ldAtNnSP (nn : Word)
  | ldCImm (n : Byte)
  | stop (n : Byte)
  | ldDEImm16 (nn : Word)
  | ldDImm (n : Byte)
  | jrOff (e : Byte)
  | ldEImm (n : Byte)
  | jrNZOff (e : Byte)
  | ldHLImm16 (nn : Word)
  | ldHImm (n : Byte)
  | jrZOff (e : Byte)
  | ldLImm (n : Byte)
  | jrNCOff (e : Byte)
  | ldSPImm16 (nn : Word)
  | ldAtHLImm (n : Byte)
  | jrCOff (e : Byte)
  | ldAImm (n : Byte)
  | jpNZImm16 (nn : Word)
  | jpImm16 (nn : Word)
  | callNZImm16 (nn : Word)
  | addAImm (n : Byte)
  | jpZImm16 (nn : Word)
  | callZImm16 (nn : Word)
  | callImm16 (nn : Word)
  | adcAImm (n : Byte)
  | jpNCImm16 (nn : Word)
  | callNCImm16 (nn : Word)
  | subAImm (n : Byte)
  | jpCImm16 (nn : Word)
  | callCImm16 (nn : Word)
  | sbcAImm (n : Byte)
  | ldhAtNA (n : Byte)
  | andAImm (n : Byte)
  | addSPOff (e : Byte)
  | ldAtNnA (nn : Word)
  | xorAImm (n : Byte)
  | ldhAAtN (n : Byte)
  | orAImm (n : Byte)
  | ldHLSPOff (e : Byte)
  | ldAAtNn (nn : Word)
  | cpAImm (n : Byte)
  | nop
  | ldAtBCA
  | incBC
  | incB
  | decB
  | rlca
  | addHLBC
  | ldAAtBC
  | decBC
  | incC
  | decC
  | rrca
  | ldAtDEA
  | incDE
  | incD
  | decD
  | rla
  | addHLDE
  | ldAAtDE
  | decDE
  | incE
  | decE
  | rra
  | ldAtHLIncA
  | incHL
  | incH
  | decH
  | daa
  | addHLHL
  | ldAAtHLInc
  | decHL
  | incL
  | decL
  | cpl
  | ldAtHLDecA
  | incSP
  | incAtHL
  | decAtHL
  | scf
  | addHLSP
  | ldAAtHLDec
  | decSP
  | incA
  | decA
  | ccf
  | ldBB
  | ldBC
  | ldBD
  | ldBE
  | ldBH
  | ldBL
  | ldBAtHL
  | ldBA
  | ldCB
  | ldCC
  | ldCD
  | ldCE
  | ldCH
  | ldCL
  | ldCAtHL
  | ldCA
  | ldDB
  | ldDC
  | ldDD
  | ldDE
  | ldDH
  | ldDL
  | ldDAtHL
  | ldDA
  | ldEB
  | ldEC
  | ldED
  | ldEE
  | ldEH
  | ldEL
  | ldEAtHL
  | ldEA
  | ldHB
  | ldHC
  | ldHD
  | ldHE
  | ldHH
  | ldHL
  | ldHAtHL
  | ldHA
  | ldLB
  | ldLC
  | ldLD
  | ldLE
  | ldLH
  | ldLL
  | ldLAtHL
  | ldLA
  | ldAtHLB
  | ldAtHLC
  | ldAtHLD
  | ldAtHLE
  | ldAtHLH
  | ldAtHLL
  | halt
  | ldAtHLA
  | ldAB
  | ldAC
  | ldAD
  | ldAE
  | ldAH
  | ldAL
  | ldAAtHL
  | ldAA
  | addAB
  | addAC
  | addAD
  | addAE
  | addAH
  | addAL
  | addAAtHL
  | addAA
  | adcAB
  | adcAC
  | adcAD
  | adcAE
  | adcAH
  | adcAL
  | adcAAtHL
  | adcAA
  | subAB
  | subAC
  | subAD
  | subAE
  | subAH
  | subAL
  | subAAtHL
  | subAA
  | sbcAB
  | sbcAC
  | sbcAD
  | sbcAE
  | sbcAH
  | sbcAL
  | sbcAAtHL
  | sbcAA
  | andAB
  | andAC
  | andAD
  | andAE
  | andAH
  | andAL
  | andAAtHL
  | andAA
  | xorAB
  | xorAC
  | xorAD
  | xorAE
  | xorAH
  | xorAL
  | xorAAtHL
  | xorAA
  | orAB
  | orAC
  | orAD
  | orAE
  | orAH
  | orAL
  | orAAtHL
  | orAA
  | cpAB
  | cpAC
  | cpAD
  | cpAE
  | cpAH
  | cpAL
  | cpAAtHL
  | cpAA
  | retNZ
  | popBC
  | pushBC
  | rst00H
  | retZ
  | ret
  | prefixCB
  | rst08H
  | retNC
  | popDE
  | undefinedD3
  | pushDE
  | rst10H
  | retC
  | reti
  | undefinedDB
  | undefinedDD
  | rst18H
  | popHL
  | ldhAtCA
  | undefinedE3
  | undefinedE4
  | pushHL
  | rst20H
  | jpHL
  | undefinedEB
  | undefinedEC
  | undefinedED
  | rst28H
  | popAF
  | ldhAAtC
  | di
  | undefinedF4
  | pushAF
  | rst30H
  | ldSPHL
  | ei
  | undefinedFC
  | undefinedFD
  | rst38H
  | rlcB
  | rlcC
  | rlcD
  | rlcE
  | rlcH
  | rlcL
  | rlcAtHL
  | rlcA
  | rrcB
  | rrcC
  | rrcD
  | rrcE
  | rrcH
  | rrcL
  | rrcAtHL
  | rrcA
  | rlB
  | rlC
  | rlD
  | rlE
  | rlH
  | rlL
  | rlAtHL
  | rlA
  | rrB
  | rrC
  | rrD
  | rrE
  | rrH
  | rrL
  | rrAtHL
  | rrA
  | slaB
  | slaC
  | slaD
  | slaE
  | slaH
  | slaL
  | slaAtHL
  | slaA
  | sraB
  | sraC
  | sraD
  | sraE
  | sraH
  | sraL
  | sraAtHL
  | sraA
  | swapB
  | swapC
  | swapD
  | swapE
  | swapH
  | swapL
  | swapAtHL
  | swapA
  | srlB
  | srlC
  | srlD
  | srlE
  | srlH
  | srlL
  | srlAtHL
  | srlA
  | bit0B
  | bit0C
  | bit0D
  | bit0E
  | bit0H
  | bit0L
  | bit0AtHL
  | bit0A
  | bit1B
  | bit1C
  | bit1D
  | bit1E
  | bit1H
  | bit1L
  | bit1AtHL
  | bit1A
  | bit2B
  | bit2C
  | bit2D
  | bit2E
  | bit2H
  | bit2L
  | bit2AtHL
  | bit2A
  | bit3B
  | bit3C
  | bit3D
  | bit3E
  | bit3H
  | bit3L
  | bit3AtHL
  | bit3A
  | bit4B
  | bit4C
  | bit4D
  | bit4E
  | bit4H
  | bit4L
  | bit4AtHL
  | bit4A
  | bit5B
  | bit5C
  | bit5D
  | bit5E
  | bit5H
  | bit5L
  | bit5AtHL
  | bit5A
  | bit6B
  | bit6C
  | bit6D
  | bit6E
  | bit6H
  | bit6L
  | bit6AtHL
  | bit6A
  | bit7B
  | bit7C
  | bit7D
  | bit7E
  | bit7H
  | bit7L
  | bit7AtHL
  | bit7A
  | res0B
  | res0C
  | res0D
  | res0E
  | res0H
  | res0L
  | res0AtHL
  | res0A
  | res1B
  | res1C
  | res1D
  | res1E
  | res1H
  | res1L
  | res1AtHL
  | res1A
  | res2B
  | res2C
  | res2D
  | res2E
  | res2H
  | res2L
  | res2AtHL
  | res2A
  | res3B
  | res3C
  | res3D
  | res3E
  | res3H
  | res3L
  | res3AtHL
  | res3A
  | res4B
  | res4C
  | res4D
  | res4E
  | res4H
  | res4L
  | res4AtHL
  | res4A
  | res5B
  | res5C
  | res5D
  | res5E
  | res5H
  | res5L
  | res5AtHL
  | res5A
  | res6B
  | res6C
  | res6D
  | res6E
  | res6H
  | res6L
  | res6AtHL
  | res6A
  | res7B
  | res7C
  | res7D
  | res7E
  | res7H
  | res7L
  | res7AtHL
  | res7A
  | set0B
  | set0C
  | set0D
  | set0E
  | set0H
  | set0L
  | set0AtHL
  | set0A
  | set1B
  | set1C
  | set1D
  | set1E
  | set1H
  | set1L
  | set1AtHL
  | set1A
  | set2B
  | set2C
  | set2D
  | set2E
  | set2H
  | set2L
  | set2AtHL
  | set2A
  | set3B
  | set3C
  | set3D
  | set3E
  | set3H
  | set3L
  | set3AtHL
  | set3A
  | set4B
  | set4C
  | set4D
  | set4E
  | set4H
  | set4L
  | set4AtHL
  | set4A
  | set5B
  | set5C
  | set5D
  | set5E
  | set5H
  | set5L
  | set5AtHL
  | set5A
  | set6B
  | set6C
  | set6D
  | set6E
  | set6H
  | set6L
  | set6AtHL
  | set6A
  | set7B
  | set7C
  | set7D
  | set7E
  | set7H
  | set7L
  | set7AtHL
  | set7A
  deriving DecidableEq, Repr

end Sys2Proof
end

