-- ==== Sys2Proof/WellFormed.lean ====
section
/-! DEFINITION. What must hold of an instruction and of a construction's parameters. -/

namespace Sys2Proof

/-- An instruction is complete. Every immediate of every constructor is encodable, so the one
incomplete term is the prefix byte without its second byte, which "is not an instruction by
itself" (spec/30_encoding.md R126). -/
def Instr.wf : Instr → Bool
  | .prefixCB => false
  | _ => true

/-- The preconditions of construction the spec states (spec/20_memory.md R75, R306): a boot image
covers the overlay range. -/
def Params.wf (p : Params) : Bool :=
  match p.bootImage with
  | none => true
  | some image => decide ((if p.enhanced then 0x900 else 0x100) ≤ image.length)

end Sys2Proof
end

