-- ==== Sys2Proof/Decode.lean ====
section
/-! DEFINITION. The decoder (spec/30_encoding.md R120 to R132), written from the field
decomposition `x, y, z, p, q` of R124 and R126, and after it the encoder, the lengths and the M-cycle
counts, written from spec/opcode_table.json row by row. The two are separate readings of the spec:
that they agree is a statement about them. -/

namespace Sys2Proof

/-! ## Bytes and words (R101, R123) -/

/-- Bits 15..8. -/
def highByte (w : Word) : Byte := w.extractLsb' 8 8

/-- Bits 7..0. -/
def lowByte (w : Word) : Byte := w.extractLsb' 0 8

/-- `{hi, lo}` (R7). -/
def joinBytes (hi lo : Byte) : Word := hi ++ lo

/-! ## Fields of an opcode byte (R121) -/

def fieldX (b : Byte) : Nat := b.toNat / 64
def fieldY (b : Byte) : Nat := b.toNat / 8 % 8
def fieldZ (b : Byte) : Nat := b.toNat % 8
def fieldP (b : Byte) : Nat := fieldY b / 2
def fieldQ (b : Byte) : Nat := fieldY b % 2

/-! ## Field value tables (R122) -/

def operand8 : Nat → Operand8
  | 0 => .reg .b
  | 1 => .reg .c
  | 2 => .reg .d
  | 3 => .reg .e
  | 4 => .reg .h
  | 5 => .reg .l
  | 6 => .mem
  | _ => .reg .a

def pairOf : Nat → Pair
  | 0 => .bc
  | 1 => .de
  | 2 => .hl
  | _ => .sp

def stackPairOf : Nat → StackPair
  | 0 => .bc
  | 1 => .de
  | 2 => .hl
  | _ => .af

def condOf : Nat → Cond
  | 0 => .nz
  | 1 => .z
  | 2 => .nc
  | _ => .c

def aluOpOf : Nat → AluOp
  | 0 => .add
  | 1 => .adc
  | 2 => .sub
  | 3 => .sbc
  | 4 => .and
  | 5 => .xor
  | 6 => .or
  | _ => .cp

def rotOpOf : Nat → RotOp
  | 0 => .rlc
  | 1 => .rrc
  | 2 => .rl
  | 3 => .rr
  | 4 => .sla
  | 5 => .sra
  | 6 => .swap
  | _ => .srl

def bitIdxOf : Nat → BitIdx
  | 0 => .b0
  | 1 => .b1
  | 2 => .b2
  | 3 => .b3
  | 4 => .b4
  | 5 => .b5
  | 6 => .b6
  | _ => .b7

def rstTargetOf : Nat → RstTarget
  | 0 => .t00
  | 1 => .t08
  | 2 => .t10
  | 3 => .t18
  | 4 => .t20
  | 5 => .t28
  | 6 => .t30
  | _ => .t38

/-! ## The generic forms of R130, by their operand fields -/

/-- `LD r,r'` (R140). -/
def Instr.ldReg : Reg8 → Reg8 → Instr
  | .b, .b => .ldBB
  | .b, .c => .ldBC
  | .b, .d => .ldBD
  | .b, .e => .ldBE
  | .b, .h => .ldBH
  | .b, .l => .ldBL
  | .b, .a => .ldBA
  | .c, .b => .ldCB
  | .c, .c => .ldCC
  | .c, .d => .ldCD
  | .c, .e => .ldCE
  | .c, .h => .ldCH
  | .c, .l => .ldCL
  | .c, .a => .ldCA
  | .d, .b => .ldDB
  | .d, .c => .ldDC
  | .d, .d => .ldDD
  | .d, .e => .ldDE
  | .d, .h => .ldDH
  | .d, .l => .ldDL
  | .d, .a => .ldDA
  | .e, .b => .ldEB
  | .e, .c => .ldEC
  | .e, .d => .ldED
  | .e, .e => .ldEE
  | .e, .h => .ldEH
  | .e, .l => .ldEL
  | .e, .a => .ldEA
  | .h, .b => .ldHB
  | .h, .c => .ldHC
  | .h, .d => .ldHD
  | .h, .e => .ldHE
  | .h, .h => .ldHH
  | .h, .l => .ldHL
  | .h, .a => .ldHA
  | .l, .b => .ldLB
  | .l, .c => .ldLC
  | .l, .d => .ldLD
  | .l, .e => .ldLE
  | .l, .h => .ldLH
  | .l, .l => .ldLL
  | .l, .a => .ldLA
  | .a, .b => .ldAB
  | .a, .c => .ldAC
  | .a, .d => .ldAD
  | .a, .e => .ldAE
  | .a, .h => .ldAH
  | .a, .l => .ldAL
  | .a, .a => .ldAA

/-- `LD r,(HL)` (R142). -/
def Instr.ldRegMem : Reg8 → Instr
  | .b => .ldBAtHL
  | .c => .ldCAtHL
  | .d => .ldDAtHL
  | .e => .ldEAtHL
  | .h => .ldHAtHL
  | .l => .ldLAtHL
  | .a => .ldAAtHL

/-- `LD (HL),r` (R143). -/
def Instr.ldMemReg : Reg8 → Instr
  | .b => .ldAtHLB
  | .c => .ldAtHLC
  | .d => .ldAtHLD
  | .e => .ldAtHLE
  | .h => .ldAtHLH
  | .l => .ldAtHLL
  | .a => .ldAtHLA

/-- `LD r,n` (R141). -/
def Instr.ldRegImm : Reg8 → Byte → Instr
  | .b, n => .ldBImm n
  | .c, n => .ldCImm n
  | .d, n => .ldDImm n
  | .e, n => .ldEImm n
  | .h, n => .ldHImm n
  | .l, n => .ldLImm n
  | .a, n => .ldAImm n

/-- `op A,r` (R180). -/
def Instr.aluReg : AluOp → Reg8 → Instr
  | .add, .b => .addAB
  | .add, .c => .addAC
  | .add, .d => .addAD
  | .add, .e => .addAE
  | .add, .h => .addAH
  | .add, .l => .addAL
  | .add, .a => .addAA
  | .adc, .b => .adcAB
  | .adc, .c => .adcAC
  | .adc, .d => .adcAD
  | .adc, .e => .adcAE
  | .adc, .h => .adcAH
  | .adc, .l => .adcAL
  | .adc, .a => .adcAA
  | .sub, .b => .subAB
  | .sub, .c => .subAC
  | .sub, .d => .subAD
  | .sub, .e => .subAE
  | .sub, .h => .subAH
  | .sub, .l => .subAL
  | .sub, .a => .subAA
  | .sbc, .b => .sbcAB
  | .sbc, .c => .sbcAC
  | .sbc, .d => .sbcAD
  | .sbc, .e => .sbcAE
  | .sbc, .h => .sbcAH
  | .sbc, .l => .sbcAL
  | .sbc, .a => .sbcAA
  | .and, .b => .andAB
  | .and, .c => .andAC
  | .and, .d => .andAD
  | .and, .e => .andAE
  | .and, .h => .andAH
  | .and, .l => .andAL
  | .and, .a => .andAA
  | .xor, .b => .xorAB
  | .xor, .c => .xorAC
  | .xor, .d => .xorAD
  | .xor, .e => .xorAE
  | .xor, .h => .xorAH
  | .xor, .l => .xorAL
  | .xor, .a => .xorAA
  | .or, .b => .orAB
  | .or, .c => .orAC
  | .or, .d => .orAD
  | .or, .e => .orAE
  | .or, .h => .orAH
  | .or, .l => .orAL
  | .or, .a => .orAA
  | .cp, .b => .cpAB
  | .cp, .c => .cpAC
  | .cp, .d => .cpAD
  | .cp, .e => .cpAE
  | .cp, .h => .cpAH
  | .cp, .l => .cpAL
  | .cp, .a => .cpAA

/-- `op A,(HL)` (R180). -/
def Instr.aluMem : AluOp → Instr
  | .add => .addAAtHL
  | .adc => .adcAAtHL
  | .sub => .subAAtHL
  | .sbc => .sbcAAtHL
  | .and => .andAAtHL
  | .xor => .xorAAtHL
  | .or => .orAAtHL
  | .cp => .cpAAtHL

/-- `op A,n` (R180). -/
def Instr.aluImm : AluOp → Byte → Instr
  | .add, n => .addAImm n
  | .adc, n => .adcAImm n
  | .sub, n => .subAImm n
  | .sbc, n => .sbcAImm n
  | .and, n => .andAImm n
  | .xor, n => .xorAImm n
  | .or, n => .orAImm n
  | .cp, n => .cpAImm n

/-- `INC r` (R205). -/
def Instr.incReg : Reg8 → Instr
  | .b => .incB
  | .c => .incC
  | .d => .incD
  | .e => .incE
  | .h => .incH
  | .l => .incL
  | .a => .incA

/-- `DEC r` (R207). -/
def Instr.decReg : Reg8 → Instr
  | .b => .decB
  | .c => .decC
  | .d => .decD
  | .e => .decE
  | .h => .decH
  | .l => .decL
  | .a => .decA

/-- `LD rr,nn` (R170). -/
def Instr.ldPair : Pair → Word → Instr
  | .bc, nn => .ldBCImm16 nn
  | .de, nn => .ldDEImm16 nn
  | .hl, nn => .ldHLImm16 nn
  | .sp, nn => .ldSPImm16 nn

/-- `ADD HL,rr` (R220). -/
def Instr.addHLPair : Pair → Instr
  | .bc => .addHLBC
  | .de => .addHLDE
  | .hl => .addHLHL
  | .sp => .addHLSP

/-- `INC rr` (R221). -/
def Instr.incPair : Pair → Instr
  | .bc => .incBC
  | .de => .incDE
  | .hl => .incHL
  | .sp => .incSP

/-- `DEC rr` (R222). -/
def Instr.decPair : Pair → Instr
  | .bc => .decBC
  | .de => .decDE
  | .hl => .decHL
  | .sp => .decSP

/-- `PUSH rr` (R173). -/
def Instr.push : StackPair → Instr
  | .bc => .pushBC
  | .de => .pushDE
  | .hl => .pushHL
  | .af => .pushAF

/-- `POP rr` (R174). -/
def Instr.pop : StackPair → Instr
  | .bc => .popBC
  | .de => .popDE
  | .hl => .popHL
  | .af => .popAF

/-- `JP cc,nn` (R272). -/
def Instr.jpCond : Cond → Word → Instr
  | .nz, nn => .jpNZImm16 nn
  | .z, nn => .jpZImm16 nn
  | .nc, nn => .jpNCImm16 nn
  | .c, nn => .jpCImm16 nn

/-- `JR cc,e` (R275). -/
def Instr.jrCond : Cond → Byte → Instr
  | .nz, n => .jrNZOff n
  | .z, n => .jrZOff n
  | .nc, n => .jrNCOff n
  | .c, n => .jrCOff n

/-- `CALL cc,nn` (R277). -/
def Instr.callCond : Cond → Word → Instr
  | .nz, nn => .callNZImm16 nn
  | .z, nn => .callZImm16 nn
  | .nc, nn => .callNCImm16 nn
  | .c, nn => .callCImm16 nn

/-- `RET cc` (R279). -/
def Instr.retCond : Cond → Instr
  | .nz => .retNZ
  | .z => .retZ
  | .nc => .retNC
  | .c => .retC

/-- `RST t` (R281). -/
def Instr.rst : RstTarget → Instr
  | .t00 => .rst00H
  | .t08 => .rst08H
  | .t10 => .rst10H
  | .t18 => .rst18H
  | .t20 => .rst20H
  | .t28 => .rst28H
  | .t30 => .rst30H
  | .t38 => .rst38H

/-- `rot r` (R230). -/
def Instr.rotReg : RotOp → Reg8 → Instr
  | .rlc, .b => .rlcB
  | .rlc, .c => .rlcC
  | .rlc, .d => .rlcD
  | .rlc, .e => .rlcE
  | .rlc, .h => .rlcH
  | .rlc, .l => .rlcL
  | .rlc, .a => .rlcA
  | .rrc, .b => .rrcB
  | .rrc, .c => .rrcC
  | .rrc, .d => .rrcD
  | .rrc, .e => .rrcE
  | .rrc, .h => .rrcH
  | .rrc, .l => .rrcL
  | .rrc, .a => .rrcA
  | .rl, .b => .rlB
  | .rl, .c => .rlC
  | .rl, .d => .rlD
  | .rl, .e => .rlE
  | .rl, .h => .rlH
  | .rl, .l => .rlL
  | .rl, .a => .rlA
  | .rr, .b => .rrB
  | .rr, .c => .rrC
  | .rr, .d => .rrD
  | .rr, .e => .rrE
  | .rr, .h => .rrH
  | .rr, .l => .rrL
  | .rr, .a => .rrA
  | .sla, .b => .slaB
  | .sla, .c => .slaC
  | .sla, .d => .slaD
  | .sla, .e => .slaE
  | .sla, .h => .slaH
  | .sla, .l => .slaL
  | .sla, .a => .slaA
  | .sra, .b => .sraB
  | .sra, .c => .sraC
  | .sra, .d => .sraD
  | .sra, .e => .sraE
  | .sra, .h => .sraH
  | .sra, .l => .sraL
  | .sra, .a => .sraA
  | .swap, .b => .swapB
  | .swap, .c => .swapC
  | .swap, .d => .swapD
  | .swap, .e => .swapE
  | .swap, .h => .swapH
  | .swap, .l => .swapL
  | .swap, .a => .swapA
  | .srl, .b => .srlB
  | .srl, .c => .srlC
  | .srl, .d => .srlD
  | .srl, .e => .srlE
  | .srl, .h => .srlH
  | .srl, .l => .srlL
  | .srl, .a => .srlA

/-- `rot (HL)` (R230). -/
def Instr.rotMem : RotOp → Instr
  | .rlc => .rlcAtHL
  | .rrc => .rrcAtHL
  | .rl => .rlAtHL
  | .rr => .rrAtHL
  | .sla => .slaAtHL
  | .sra => .sraAtHL
  | .swap => .swapAtHL
  | .srl => .srlAtHL

/-- `BIT b,r` (R251). -/
def Instr.bitReg : BitIdx → Reg8 → Instr
  | .b0, .b => .bit0B
  | .b0, .c => .bit0C
  | .b0, .d => .bit0D
  | .b0, .e => .bit0E
  | .b0, .h => .bit0H
  | .b0, .l => .bit0L
  | .b0, .a => .bit0A
  | .b1, .b => .bit1B
  | .b1, .c => .bit1C
  | .b1, .d => .bit1D
  | .b1, .e => .bit1E
  | .b1, .h => .bit1H
  | .b1, .l => .bit1L
  | .b1, .a => .bit1A
  | .b2, .b => .bit2B
  | .b2, .c => .bit2C
  | .b2, .d => .bit2D
  | .b2, .e => .bit2E
  | .b2, .h => .bit2H
  | .b2, .l => .bit2L
  | .b2, .a => .bit2A
  | .b3, .b => .bit3B
  | .b3, .c => .bit3C
  | .b3, .d => .bit3D
  | .b3, .e => .bit3E
  | .b3, .h => .bit3H
  | .b3, .l => .bit3L
  | .b3, .a => .bit3A
  | .b4, .b => .bit4B
  | .b4, .c => .bit4C
  | .b4, .d => .bit4D
  | .b4, .e => .bit4E
  | .b4, .h => .bit4H
  | .b4, .l => .bit4L
  | .b4, .a => .bit4A
  | .b5, .b => .bit5B
  | .b5, .c => .bit5C
  | .b5, .d => .bit5D
  | .b5, .e => .bit5E
  | .b5, .h => .bit5H
  | .b5, .l => .bit5L
  | .b5, .a => .bit5A
  | .b6, .b => .bit6B
  | .b6, .c => .bit6C
  | .b6, .d => .bit6D
  | .b6, .e => .bit6E
  | .b6, .h => .bit6H
  | .b6, .l => .bit6L
  | .b6, .a => .bit6A
  | .b7, .b => .bit7B
  | .b7, .c => .bit7C
  | .b7, .d => .bit7D
  | .b7, .e => .bit7E
  | .b7, .h => .bit7H
  | .b7, .l => .bit7L
  | .b7, .a => .bit7A

/-- `BIT b,(HL)` (R252). -/
def Instr.bitMem : BitIdx → Instr
  | .b0 => .bit0AtHL
  | .b1 => .bit1AtHL
  | .b2 => .bit2AtHL
  | .b3 => .bit3AtHL
  | .b4 => .bit4AtHL
  | .b5 => .bit5AtHL
  | .b6 => .bit6AtHL
  | .b7 => .bit7AtHL

/-- `RES b,r` (R253). -/
def Instr.resReg : BitIdx → Reg8 → Instr
  | .b0, .b => .res0B
  | .b0, .c => .res0C
  | .b0, .d => .res0D
  | .b0, .e => .res0E
  | .b0, .h => .res0H
  | .b0, .l => .res0L
  | .b0, .a => .res0A
  | .b1, .b => .res1B
  | .b1, .c => .res1C
  | .b1, .d => .res1D
  | .b1, .e => .res1E
  | .b1, .h => .res1H
  | .b1, .l => .res1L
  | .b1, .a => .res1A
  | .b2, .b => .res2B
  | .b2, .c => .res2C
  | .b2, .d => .res2D
  | .b2, .e => .res2E
  | .b2, .h => .res2H
  | .b2, .l => .res2L
  | .b2, .a => .res2A
  | .b3, .b => .res3B
  | .b3, .c => .res3C
  | .b3, .d => .res3D
  | .b3, .e => .res3E
  | .b3, .h => .res3H
  | .b3, .l => .res3L
  | .b3, .a => .res3A
  | .b4, .b => .res4B
  | .b4, .c => .res4C
  | .b4, .d => .res4D
  | .b4, .e => .res4E
  | .b4, .h => .res4H
  | .b4, .l => .res4L
  | .b4, .a => .res4A
  | .b5, .b => .res5B
  | .b5, .c => .res5C
  | .b5, .d => .res5D
  | .b5, .e => .res5E
  | .b5, .h => .res5H
  | .b5, .l => .res5L
  | .b5, .a => .res5A
  | .b6, .b => .res6B
  | .b6, .c => .res6C
  | .b6, .d => .res6D
  | .b6, .e => .res6E
  | .b6, .h => .res6H
  | .b6, .l => .res6L
  | .b6, .a => .res6A
  | .b7, .b => .res7B
  | .b7, .c => .res7C
  | .b7, .d => .res7D
  | .b7, .e => .res7E
  | .b7, .h => .res7H
  | .b7, .l => .res7L
  | .b7, .a => .res7A

/-- `RES b,(HL)` (R254). -/
def Instr.resMem : BitIdx → Instr
  | .b0 => .res0AtHL
  | .b1 => .res1AtHL
  | .b2 => .res2AtHL
  | .b3 => .res3AtHL
  | .b4 => .res4AtHL
  | .b5 => .res5AtHL
  | .b6 => .res6AtHL
  | .b7 => .res7AtHL

/-- `SET b,r` (R255). -/
def Instr.setReg : BitIdx → Reg8 → Instr
  | .b0, .b => .set0B
  | .b0, .c => .set0C
  | .b0, .d => .set0D
  | .b0, .e => .set0E
  | .b0, .h => .set0H
  | .b0, .l => .set0L
  | .b0, .a => .set0A
  | .b1, .b => .set1B
  | .b1, .c => .set1C
  | .b1, .d => .set1D
  | .b1, .e => .set1E
  | .b1, .h => .set1H
  | .b1, .l => .set1L
  | .b1, .a => .set1A
  | .b2, .b => .set2B
  | .b2, .c => .set2C
  | .b2, .d => .set2D
  | .b2, .e => .set2E
  | .b2, .h => .set2H
  | .b2, .l => .set2L
  | .b2, .a => .set2A
  | .b3, .b => .set3B
  | .b3, .c => .set3C
  | .b3, .d => .set3D
  | .b3, .e => .set3E
  | .b3, .h => .set3H
  | .b3, .l => .set3L
  | .b3, .a => .set3A
  | .b4, .b => .set4B
  | .b4, .c => .set4C
  | .b4, .d => .set4D
  | .b4, .e => .set4E
  | .b4, .h => .set4H
  | .b4, .l => .set4L
  | .b4, .a => .set4A
  | .b5, .b => .set5B
  | .b5, .c => .set5C
  | .b5, .d => .set5D
  | .b5, .e => .set5E
  | .b5, .h => .set5H
  | .b5, .l => .set5L
  | .b5, .a => .set5A
  | .b6, .b => .set6B
  | .b6, .c => .set6C
  | .b6, .d => .set6D
  | .b6, .e => .set6E
  | .b6, .h => .set6H
  | .b6, .l => .set6L
  | .b6, .a => .set6A
  | .b7, .b => .set7B
  | .b7, .c => .set7C
  | .b7, .d => .set7D
  | .b7, .e => .set7E
  | .b7, .h => .set7H
  | .b7, .l => .set7L
  | .b7, .a => .set7A

/-- `SET b,(HL)` (R256). -/
def Instr.setMem : BitIdx → Instr
  | .b0 => .set0AtHL
  | .b1 => .set1AtHL
  | .b2 => .set2AtHL
  | .b3 => .set3AtHL
  | .b4 => .set4AtHL
  | .b5 => .set5AtHL
  | .b6 => .set6AtHL
  | .b7 => .set7AtHL

/-- The eleven unassigned primary opcodes (R131), each a constructor of its own. -/
def Instr.unassigned : List Instr :=
  [.undefinedD3, .undefinedDB, .undefinedDD, .undefinedE3, .undefinedE4, .undefinedEB, .undefinedEC, .undefinedED, .undefinedF4, .undefinedFC, .undefinedFD]

/-! ## The decoder -/

/-- What the first byte says (R120): an instruction, one that lacks an immediate, or the prefix
byte. `opN` stands for the formats `OP_N` and `OP_E`. -/
inductive Shape where
  | op (i : Instr)
  | opN (f : Byte → Instr)
  | opNN (f : Word → Instr)
  | extended

/-- `LD r[y],n`. -/
def decodeLdImm : Operand8 → Shape
  | .reg r => .opN (Instr.ldRegImm r)
  | .mem => .opN .ldAtHLImm

/-- The quadrant `x = 0` of R124. -/
def decodeX0 (b : Byte) : Shape :=
  let y := fieldY b
  let p := fieldP b
  match fieldZ b with
  | 0 =>
    match y with
    | 0 => .op .nop
    | 1 => .opNN .ldAtNnSP
    | 2 => .opN .stop
    | 3 => .opN .jrOff
    | _ => .opN (Instr.jrCond (condOf (y - 4)))
  | 1 => if fieldQ b = 0 then .opNN (Instr.ldPair (pairOf p)) else .op (Instr.addHLPair (pairOf p))
  | 2 =>
    match y with
    | 0 => .op .ldAtBCA
    | 1 => .op .ldAAtBC
    | 2 => .op .ldAtDEA
    | 3 => .op .ldAAtDE
    | 4 => .op .ldAtHLIncA
    | 5 => .op .ldAAtHLInc
    | 6 => .op .ldAtHLDecA
    | _ => .op .ldAAtHLDec
  | 3 => .op (if fieldQ b = 0 then Instr.incPair (pairOf p) else Instr.decPair (pairOf p))
  | 4 => .op (match operand8 y with | .reg r => Instr.incReg r | .mem => .incAtHL)
  | 5 => .op (match operand8 y with | .reg r => Instr.decReg r | .mem => .decAtHL)
  | 6 => decodeLdImm (operand8 y)
  | _ =>
    match y with
    | 0 => .op .rlca
    | 1 => .op .rrca
    | 2 => .op .rla
    | 3 => .op .rra
    | 4 => .op .daa
    | 5 => .op .cpl
    | 6 => .op .scf
    | _ => .op .ccf

/-- The quadrant `x = 1` of R124: the load block, with `HALT` in the `LD (HL),(HL)` slot. -/
def decodeX1 (b : Byte) : Instr :=
  match operand8 (fieldY b), operand8 (fieldZ b) with
  | .reg dst, .reg src => Instr.ldReg dst src
  | .reg dst, .mem => Instr.ldRegMem dst
  | .mem, .reg src => Instr.ldMemReg src
  | .mem, .mem => .halt

/-- The quadrant `x = 2` of R124. -/
def decodeX2 (b : Byte) : Instr :=
  match operand8 (fieldZ b) with
  | .reg r => Instr.aluReg (aluOpOf (fieldY b)) r
  | .mem => Instr.aluMem (aluOpOf (fieldY b))

/-- The quadrant `x = 3` of R124. -/
def decodeX3 (b : Byte) : Shape :=
  let y := fieldY b
  match fieldZ b with
  | 0 =>
    match y with
    | 4 => .opN .ldhAtNA
    | 5 => .opN .addSPOff
    | 6 => .opN .ldhAAtN
    | 7 => .opN .ldHLSPOff
    | _ => .op (Instr.retCond (condOf y))
  | 1 =>
    match y with
    | 1 => .op .ret
    | 3 => .op .reti
    | 5 => .op .jpHL
    | 7 => .op .ldSPHL
    | _ => .op (Instr.pop (stackPairOf (fieldP b)))
  | 2 =>
    match y with
    | 4 => .op .ldhAtCA
    | 5 => .opNN .ldAtNnA
    | 6 => .op .ldhAAtC
    | 7 => .opNN .ldAAtNn
    | _ => .opNN (Instr.jpCond (condOf y))
  | 3 =>
    match y with
    | 0 => .opNN .jpImm16
    | 1 => .extended
    | 2 => .op .undefinedD3
    | 3 => .op .undefinedDB
    | 4 => .op .undefinedE3
    | 5 => .op .undefinedEB
    | 6 => .op .di
    | _ => .op .ei
  | 4 =>
    match y with
    | 4 => .op .undefinedE4
    | 5 => .op .undefinedEC
    | 6 => .op .undefinedF4
    | 7 => .op .undefinedFC
    | _ => .opNN (Instr.callCond (condOf y))
  | 5 =>
    match y with
    | 1 => .opNN .callImm16
    | 3 => .op .undefinedDD
    | 5 => .op .undefinedED
    | 7 => .op .undefinedFD
    | _ => .op (Instr.push (stackPairOf (fieldP b)))
  | 6 => .opN (Instr.aluImm (aluOpOf y))
  | _ => .op (Instr.rst (rstTargetOf y))

/-- Decode of byte 0 (R124). -/
def decodePrimary (b : Byte) : Shape :=
  match fieldX b with
  | 0 => decodeX0 b
  | 1 => .op (decodeX1 b)
  | 2 => .op (decodeX2 b)
  | _ => decodeX3 b

/-- Decode of byte 1 after 0xCB (R126). Every value is assigned. -/
def decodeExtended (b : Byte) : Instr :=
  match fieldX b, operand8 (fieldZ b) with
  | 0, .reg r => Instr.rotReg (rotOpOf (fieldY b)) r
  | 0, .mem => Instr.rotMem (rotOpOf (fieldY b))
  | 1, .reg r => Instr.bitReg (bitIdxOf (fieldY b)) r
  | 1, .mem => Instr.bitMem (bitIdxOf (fieldY b))
  | 2, .reg r => Instr.resReg (bitIdxOf (fieldY b)) r
  | 2, .mem => Instr.resMem (bitIdxOf (fieldY b))
  | _, .reg r => Instr.setReg (bitIdxOf (fieldY b)) r
  | _, .mem => Instr.setMem (bitIdxOf (fieldY b))

/-- How many bytes follow the first one: a function of the first byte alone (R120). -/
def operandCount (b : Byte) : Nat :=
  match decodePrimary b with
  | .op _ => 0
  | .opN _ => 1
  | .opNN _ => 2
  | .extended => 1

/-- Why a byte string is no instruction: it ends too early. No byte VALUE is refused (R132). -/
inductive DecodeError where
  | noByte
  | truncated (opcode : Byte)
  deriving DecidableEq, Repr

/-- The instruction at the front of a byte string, and the bytes after it. The prefix byte with
nothing after it is the table's row `PREFIX_CB` (R295, log 10). -/
def decode : List Byte → Except DecodeError (Instr × List Byte)
  | [] => .error .noByte
  | b0 :: rest =>
    match decodePrimary b0, rest with
    | .op i, r => .ok (i, r)
    | .opN f, n :: r => .ok (f n, r)
    | .opNN f, lo :: hi :: r => .ok (f (joinBytes hi lo), r)
    | .extended, op2 :: r => .ok (decodeExtended op2, r)
    | .extended, [] => .ok (.prefixCB, [])
    | .opN _, [] => .error (.truncated b0)
    | .opNN _, [] => .error (.truncated b0)
    | .opNN _, [_] => .error (.truncated b0)

/-- The bytes of a table row's word (R130, log 11). The table numbers a prefixed row's 16 bits with
byte 0 in the high half; every other row has 8 bits, and then the immediates above them are zeros.
For widths the table gives no row, the first byte is the least significant one. -/
def tableBytes (nbits w : Nat) : List Byte :=
  if nbits ≤ 8 then
    let op := BitVec.ofNat 8 w
    op :: List.replicate (if op = 0xCB then 0 else operandCount op) 0
  else if w / 256 = 0xCB then [0xCB, BitVec.ofNat 8 w]
  else [BitVec.ofNat 8 w, BitVec.ofNat 8 (w / 256), BitVec.ofNat 8 (w / 65536)]

/-- The instruction the decoder reads from a table row's word. -/
def decodeTableWord (nbits w : Nat) : Option Instr :=
  match decode (tableBytes nbits w) with
  | .ok (i, _) => some i
  | .error _ => none

/-! ## The encoder -/

/-- The bytes of an instruction, first byte first (R120, spec/opcode_table.json). -/
def encode : Instr → List Byte
  | .nop => [0x00]
  | .ldBCImm16 nn => [0x01, lowByte nn, highByte nn]
  | .ldAtBCA => [0x02]
  | .incBC => [0x03]
  | .incB => [0x04]
  | .decB => [0x05]
  | .ldBImm n => [0x06, n]
  | .rlca => [0x07]
  | .ldAtNnSP nn => [0x08, lowByte nn, highByte nn]
  | .addHLBC => [0x09]
  | .ldAAtBC => [0x0A]
  | .decBC => [0x0B]
  | .incC => [0x0C]
  | .decC => [0x0D]
  | .ldCImm n => [0x0E, n]
  | .rrca => [0x0F]
  | .stop n => [0x10, n]
  | .ldDEImm16 nn => [0x11, lowByte nn, highByte nn]
  | .ldAtDEA => [0x12]
  | .incDE => [0x13]
  | .incD => [0x14]
  | .decD => [0x15]
  | .ldDImm n => [0x16, n]
  | .rla => [0x17]
  | .jrOff n => [0x18, n]
  | .addHLDE => [0x19]
  | .ldAAtDE => [0x1A]
  | .decDE => [0x1B]
  | .incE => [0x1C]
  | .decE => [0x1D]
  | .ldEImm n => [0x1E, n]
  | .rra => [0x1F]
  | .jrNZOff n => [0x20, n]
  | .ldHLImm16 nn => [0x21, lowByte nn, highByte nn]
  | .ldAtHLIncA => [0x22]
  | .incHL => [0x23]
  | .incH => [0x24]
  | .decH => [0x25]
  | .ldHImm n => [0x26, n]
  | .daa => [0x27]
  | .jrZOff n => [0x28, n]
  | .addHLHL => [0x29]
  | .ldAAtHLInc => [0x2A]
  | .decHL => [0x2B]
  | .incL => [0x2C]
  | .decL => [0x2D]
  | .ldLImm n => [0x2E, n]
  | .cpl => [0x2F]
  | .jrNCOff n => [0x30, n]
  | .ldSPImm16 nn => [0x31, lowByte nn, highByte nn]
  | .ldAtHLDecA => [0x32]
  | .incSP => [0x33]
  | .incAtHL => [0x34]
  | .decAtHL => [0x35]
  | .ldAtHLImm n => [0x36, n]
  | .scf => [0x37]
  | .jrCOff n => [0x38, n]
  | .addHLSP => [0x39]
  | .ldAAtHLDec => [0x3A]
  | .decSP => [0x3B]
  | .incA => [0x3C]
  | .decA => [0x3D]
  | .ldAImm n => [0x3E, n]
  | .ccf => [0x3F]
  | .ldBB => [0x40]
  | .ldBC => [0x41]
  | .ldBD => [0x42]
  | .ldBE => [0x43]
  | .ldBH => [0x44]
  | .ldBL => [0x45]
  | .ldBAtHL => [0x46]
  | .ldBA => [0x47]
  | .ldCB => [0x48]
  | .ldCC => [0x49]
  | .ldCD => [0x4A]
  | .ldCE => [0x4B]
  | .ldCH => [0x4C]
  | .ldCL => [0x4D]
  | .ldCAtHL => [0x4E]
  | .ldCA => [0x4F]
  | .ldDB => [0x50]
  | .ldDC => [0x51]
  | .ldDD => [0x52]
  | .ldDE => [0x53]
  | .ldDH => [0x54]
  | .ldDL => [0x55]
  | .ldDAtHL => [0x56]
  | .ldDA => [0x57]
  | .ldEB => [0x58]
  | .ldEC => [0x59]
  | .ldED => [0x5A]
  | .ldEE => [0x5B]
  | .ldEH => [0x5C]
  | .ldEL => [0x5D]
  | .ldEAtHL => [0x5E]
  | .ldEA => [0x5F]
  | .ldHB => [0x60]
  | .ldHC => [0x61]
  | .ldHD => [0x62]
  | .ldHE => [0x63]
  | .ldHH => [0x64]
  | .ldHL => [0x65]
  | .ldHAtHL => [0x66]
  | .ldHA => [0x67]
  | .ldLB => [0x68]
  | .ldLC => [0x69]
  | .ldLD => [0x6A]
  | .ldLE => [0x6B]
  | .ldLH => [0x6C]
  | .ldLL => [0x6D]
  | .ldLAtHL => [0x6E]
  | .ldLA => [0x6F]
  | .ldAtHLB => [0x70]
  | .ldAtHLC => [0x71]
  | .ldAtHLD => [0x72]
  | .ldAtHLE => [0x73]
  | .ldAtHLH => [0x74]
  | .ldAtHLL => [0x75]
  | .halt => [0x76]
  | .ldAtHLA => [0x77]
  | .ldAB => [0x78]
  | .ldAC => [0x79]
  | .ldAD => [0x7A]
  | .ldAE => [0x7B]
  | .ldAH => [0x7C]
  | .ldAL => [0x7D]
  | .ldAAtHL => [0x7E]
  | .ldAA => [0x7F]
  | .addAB => [0x80]
  | .addAC => [0x81]
  | .addAD => [0x82]
  | .addAE => [0x83]
  | .addAH => [0x84]
  | .addAL => [0x85]
  | .addAAtHL => [0x86]
  | .addAA => [0x87]
  | .adcAB => [0x88]
  | .adcAC => [0x89]
  | .adcAD => [0x8A]
  | .adcAE => [0x8B]
  | .adcAH => [0x8C]
  | .adcAL => [0x8D]
  | .adcAAtHL => [0x8E]
  | .adcAA => [0x8F]
  | .subAB => [0x90]
  | .subAC => [0x91]
  | .subAD => [0x92]
  | .subAE => [0x93]
  | .subAH => [0x94]
  | .subAL => [0x95]
  | .subAAtHL => [0x96]
  | .subAA => [0x97]
  | .sbcAB => [0x98]
  | .sbcAC => [0x99]
  | .sbcAD => [0x9A]
  | .sbcAE => [0x9B]
  | .sbcAH => [0x9C]
  | .sbcAL => [0x9D]
  | .sbcAAtHL => [0x9E]
  | .sbcAA => [0x9F]
  | .andAB => [0xA0]
  | .andAC => [0xA1]
  | .andAD => [0xA2]
  | .andAE => [0xA3]
  | .andAH => [0xA4]
  | .andAL => [0xA5]
  | .andAAtHL => [0xA6]
  | .andAA => [0xA7]
  | .xorAB => [0xA8]
  | .xorAC => [0xA9]
  | .xorAD => [0xAA]
  | .xorAE => [0xAB]
  | .xorAH => [0xAC]
  | .xorAL => [0xAD]
  | .xorAAtHL => [0xAE]
  | .xorAA => [0xAF]
  | .orAB => [0xB0]
  | .orAC => [0xB1]
  | .orAD => [0xB2]
  | .orAE => [0xB3]
  | .orAH => [0xB4]
  | .orAL => [0xB5]
  | .orAAtHL => [0xB6]
  | .orAA => [0xB7]
  | .cpAB => [0xB8]
  | .cpAC => [0xB9]
  | .cpAD => [0xBA]
  | .cpAE => [0xBB]
  | .cpAH => [0xBC]
  | .cpAL => [0xBD]
  | .cpAAtHL => [0xBE]
  | .cpAA => [0xBF]
  | .retNZ => [0xC0]
  | .popBC => [0xC1]
  | .jpNZImm16 nn => [0xC2, lowByte nn, highByte nn]
  | .jpImm16 nn => [0xC3, lowByte nn, highByte nn]
  | .callNZImm16 nn => [0xC4, lowByte nn, highByte nn]
  | .pushBC => [0xC5]
  | .addAImm n => [0xC6, n]
  | .rst00H => [0xC7]
  | .retZ => [0xC8]
  | .ret => [0xC9]
  | .jpZImm16 nn => [0xCA, lowByte nn, highByte nn]
  | .prefixCB => [0xCB]
  | .callZImm16 nn => [0xCC, lowByte nn, highByte nn]
  | .callImm16 nn => [0xCD, lowByte nn, highByte nn]
  | .adcAImm n => [0xCE, n]
  | .rst08H => [0xCF]
  | .retNC => [0xD0]
  | .popDE => [0xD1]
  | .jpNCImm16 nn => [0xD2, lowByte nn, highByte nn]
  | .undefinedD3 => [0xD3]
  | .callNCImm16 nn => [0xD4, lowByte nn, highByte nn]
  | .pushDE => [0xD5]
  | .subAImm n => [0xD6, n]
  | .rst10H => [0xD7]
  | .retC => [0xD8]
  | .reti => [0xD9]
  | .jpCImm16 nn => [0xDA, lowByte nn, highByte nn]
  | .undefinedDB => [0xDB]
  | .callCImm16 nn => [0xDC, lowByte nn, highByte nn]
  | .undefinedDD => [0xDD]
  | .sbcAImm n => [0xDE, n]
  | .rst18H => [0xDF]
  | .ldhAtNA n => [0xE0, n]
  | .popHL => [0xE1]
  | .ldhAtCA => [0xE2]
  | .undefinedE3 => [0xE3]
  | .undefinedE4 => [0xE4]
  | .pushHL => [0xE5]
  | .andAImm n => [0xE6, n]
  | .rst20H => [0xE7]
  | .addSPOff n => [0xE8, n]
  | .jpHL => [0xE9]
  | .ldAtNnA nn => [0xEA, lowByte nn, highByte nn]
  | .undefinedEB => [0xEB]
  | .undefinedEC => [0xEC]
  | .undefinedED => [0xED]
  | .xorAImm n => [0xEE, n]
  | .rst28H => [0xEF]
  | .ldhAAtN n => [0xF0, n]
  | .popAF => [0xF1]
  | .ldhAAtC => [0xF2]
  | .di => [0xF3]
  | .undefinedF4 => [0xF4]
  | .pushAF => [0xF5]
  | .orAImm n => [0xF6, n]
  | .rst30H => [0xF7]
  | .ldHLSPOff n => [0xF8, n]
  | .ldSPHL => [0xF9]
  | .ldAAtNn nn => [0xFA, lowByte nn, highByte nn]
  | .ei => [0xFB]
  | .undefinedFC => [0xFC]
  | .undefinedFD => [0xFD]
  | .cpAImm n => [0xFE, n]
  | .rst38H => [0xFF]
  | .rlcB => [0xCB, 0x00]
  | .rlcC => [0xCB, 0x01]
  | .rlcD => [0xCB, 0x02]
  | .rlcE => [0xCB, 0x03]
  | .rlcH => [0xCB, 0x04]
  | .rlcL => [0xCB, 0x05]
  | .rlcAtHL => [0xCB, 0x06]
  | .rlcA => [0xCB, 0x07]
  | .rrcB => [0xCB, 0x08]
  | .rrcC => [0xCB, 0x09]
  | .rrcD => [0xCB, 0x0A]
  | .rrcE => [0xCB, 0x0B]
  | .rrcH => [0xCB, 0x0C]
  | .rrcL => [0xCB, 0x0D]
  | .rrcAtHL => [0xCB, 0x0E]
  | .rrcA => [0xCB, 0x0F]
  | .rlB => [0xCB, 0x10]
  | .rlC => [0xCB, 0x11]
  | .rlD => [0xCB, 0x12]
  | .rlE => [0xCB, 0x13]
  | .rlH => [0xCB, 0x14]
  | .rlL => [0xCB, 0x15]
  | .rlAtHL => [0xCB, 0x16]
  | .rlA => [0xCB, 0x17]
  | .rrB => [0xCB, 0x18]
  | .rrC => [0xCB, 0x19]
  | .rrD => [0xCB, 0x1A]
  | .rrE => [0xCB, 0x1B]
  | .rrH => [0xCB, 0x1C]
  | .rrL => [0xCB, 0x1D]
  | .rrAtHL => [0xCB, 0x1E]
  | .rrA => [0xCB, 0x1F]
  | .slaB => [0xCB, 0x20]
  | .slaC => [0xCB, 0x21]
  | .slaD => [0xCB, 0x22]
  | .slaE => [0xCB, 0x23]
  | .slaH => [0xCB, 0x24]
  | .slaL => [0xCB, 0x25]
  | .slaAtHL => [0xCB, 0x26]
  | .slaA => [0xCB, 0x27]
  | .sraB => [0xCB, 0x28]
  | .sraC => [0xCB, 0x29]
  | .sraD => [0xCB, 0x2A]
  | .sraE => [0xCB, 0x2B]
  | .sraH => [0xCB, 0x2C]
  | .sraL => [0xCB, 0x2D]
  | .sraAtHL => [0xCB, 0x2E]
  | .sraA => [0xCB, 0x2F]
  | .swapB => [0xCB, 0x30]
  | .swapC => [0xCB, 0x31]
  | .swapD => [0xCB, 0x32]
  | .swapE => [0xCB, 0x33]
  | .swapH => [0xCB, 0x34]
  | .swapL => [0xCB, 0x35]
  | .swapAtHL => [0xCB, 0x36]
  | .swapA => [0xCB, 0x37]
  | .srlB => [0xCB, 0x38]
  | .srlC => [0xCB, 0x39]
  | .srlD => [0xCB, 0x3A]
  | .srlE => [0xCB, 0x3B]
  | .srlH => [0xCB, 0x3C]
  | .srlL => [0xCB, 0x3D]
  | .srlAtHL => [0xCB, 0x3E]
  | .srlA => [0xCB, 0x3F]
  | .bit0B => [0xCB, 0x40]
  | .bit0C => [0xCB, 0x41]
  | .bit0D => [0xCB, 0x42]
  | .bit0E => [0xCB, 0x43]
  | .bit0H => [0xCB, 0x44]
  | .bit0L => [0xCB, 0x45]
  | .bit0AtHL => [0xCB, 0x46]
  | .bit0A => [0xCB, 0x47]
  | .bit1B => [0xCB, 0x48]
  | .bit1C => [0xCB, 0x49]
  | .bit1D => [0xCB, 0x4A]
  | .bit1E => [0xCB, 0x4B]
  | .bit1H => [0xCB, 0x4C]
  | .bit1L => [0xCB, 0x4D]
  | .bit1AtHL => [0xCB, 0x4E]
  | .bit1A => [0xCB, 0x4F]
  | .bit2B => [0xCB, 0x50]
  | .bit2C => [0xCB, 0x51]
  | .bit2D => [0xCB, 0x52]
  | .bit2E => [0xCB, 0x53]
  | .bit2H => [0xCB, 0x54]
  | .bit2L => [0xCB, 0x55]
  | .bit2AtHL => [0xCB, 0x56]
  | .bit2A => [0xCB, 0x57]
  | .bit3B => [0xCB, 0x58]
  | .bit3C => [0xCB, 0x59]
  | .bit3D => [0xCB, 0x5A]
  | .bit3E => [0xCB, 0x5B]
  | .bit3H => [0xCB, 0x5C]
  | .bit3L => [0xCB, 0x5D]
  | .bit3AtHL => [0xCB, 0x5E]
  | .bit3A => [0xCB, 0x5F]
  | .bit4B => [0xCB, 0x60]
  | .bit4C => [0xCB, 0x61]
  | .bit4D => [0xCB, 0x62]
  | .bit4E => [0xCB, 0x63]
  | .bit4H => [0xCB, 0x64]
  | .bit4L => [0xCB, 0x65]
  | .bit4AtHL => [0xCB, 0x66]
  | .bit4A => [0xCB, 0x67]
  | .bit5B => [0xCB, 0x68]
  | .bit5C => [0xCB, 0x69]
  | .bit5D => [0xCB, 0x6A]
  | .bit5E => [0xCB, 0x6B]
  | .bit5H => [0xCB, 0x6C]
  | .bit5L => [0xCB, 0x6D]
  | .bit5AtHL => [0xCB, 0x6E]
  | .bit5A => [0xCB, 0x6F]
  | .bit6B => [0xCB, 0x70]
  | .bit6C => [0xCB, 0x71]
  | .bit6D => [0xCB, 0x72]
  | .bit6E => [0xCB, 0x73]
  | .bit6H => [0xCB, 0x74]
  | .bit6L => [0xCB, 0x75]
  | .bit6AtHL => [0xCB, 0x76]
  | .bit6A => [0xCB, 0x77]
  | .bit7B => [0xCB, 0x78]
  | .bit7C => [0xCB, 0x79]
  | .bit7D => [0xCB, 0x7A]
  | .bit7E => [0xCB, 0x7B]
  | .bit7H => [0xCB, 0x7C]
  | .bit7L => [0xCB, 0x7D]
  | .bit7AtHL => [0xCB, 0x7E]
  | .bit7A => [0xCB, 0x7F]
  | .res0B => [0xCB, 0x80]
  | .res0C => [0xCB, 0x81]
  | .res0D => [0xCB, 0x82]
  | .res0E => [0xCB, 0x83]
  | .res0H => [0xCB, 0x84]
  | .res0L => [0xCB, 0x85]
  | .res0AtHL => [0xCB, 0x86]
  | .res0A => [0xCB, 0x87]
  | .res1B => [0xCB, 0x88]
  | .res1C => [0xCB, 0x89]
  | .res1D => [0xCB, 0x8A]
  | .res1E => [0xCB, 0x8B]
  | .res1H => [0xCB, 0x8C]
  | .res1L => [0xCB, 0x8D]
  | .res1AtHL => [0xCB, 0x8E]
  | .res1A => [0xCB, 0x8F]
  | .res2B => [0xCB, 0x90]
  | .res2C => [0xCB, 0x91]
  | .res2D => [0xCB, 0x92]
  | .res2E => [0xCB, 0x93]
  | .res2H => [0xCB, 0x94]
  | .res2L => [0xCB, 0x95]
  | .res2AtHL => [0xCB, 0x96]
  | .res2A => [0xCB, 0x97]
  | .res3B => [0xCB, 0x98]
  | .res3C => [0xCB, 0x99]
  | .res3D => [0xCB, 0x9A]
  | .res3E => [0xCB, 0x9B]
  | .res3H => [0xCB, 0x9C]
  | .res3L => [0xCB, 0x9D]
  | .res3AtHL => [0xCB, 0x9E]
  | .res3A => [0xCB, 0x9F]
  | .res4B => [0xCB, 0xA0]
  | .res4C => [0xCB, 0xA1]
  | .res4D => [0xCB, 0xA2]
  | .res4E => [0xCB, 0xA3]
  | .res4H => [0xCB, 0xA4]
  | .res4L => [0xCB, 0xA5]
  | .res4AtHL => [0xCB, 0xA6]
  | .res4A => [0xCB, 0xA7]
  | .res5B => [0xCB, 0xA8]
  | .res5C => [0xCB, 0xA9]
  | .res5D => [0xCB, 0xAA]
  | .res5E => [0xCB, 0xAB]
  | .res5H => [0xCB, 0xAC]
  | .res5L => [0xCB, 0xAD]
  | .res5AtHL => [0xCB, 0xAE]
  | .res5A => [0xCB, 0xAF]
  | .res6B => [0xCB, 0xB0]
  | .res6C => [0xCB, 0xB1]
  | .res6D => [0xCB, 0xB2]
  | .res6E => [0xCB, 0xB3]
  | .res6H => [0xCB, 0xB4]
  | .res6L => [0xCB, 0xB5]
  | .res6AtHL => [0xCB, 0xB6]
  | .res6A => [0xCB, 0xB7]
  | .res7B => [0xCB, 0xB8]
  | .res7C => [0xCB, 0xB9]
  | .res7D => [0xCB, 0xBA]
  | .res7E => [0xCB, 0xBB]
  | .res7H => [0xCB, 0xBC]
  | .res7L => [0xCB, 0xBD]
  | .res7AtHL => [0xCB, 0xBE]
  | .res7A => [0xCB, 0xBF]
  | .set0B => [0xCB, 0xC0]
  | .set0C => [0xCB, 0xC1]
  | .set0D => [0xCB, 0xC2]
  | .set0E => [0xCB, 0xC3]
  | .set0H => [0xCB, 0xC4]
  | .set0L => [0xCB, 0xC5]
  | .set0AtHL => [0xCB, 0xC6]
  | .set0A => [0xCB, 0xC7]
  | .set1B => [0xCB, 0xC8]
  | .set1C => [0xCB, 0xC9]
  | .set1D => [0xCB, 0xCA]
  | .set1E => [0xCB, 0xCB]
  | .set1H => [0xCB, 0xCC]
  | .set1L => [0xCB, 0xCD]
  | .set1AtHL => [0xCB, 0xCE]
  | .set1A => [0xCB, 0xCF]
  | .set2B => [0xCB, 0xD0]
  | .set2C => [0xCB, 0xD1]
  | .set2D => [0xCB, 0xD2]
  | .set2E => [0xCB, 0xD3]
  | .set2H => [0xCB, 0xD4]
  | .set2L => [0xCB, 0xD5]
  | .set2AtHL => [0xCB, 0xD6]
  | .set2A => [0xCB, 0xD7]
  | .set3B => [0xCB, 0xD8]
  | .set3C => [0xCB, 0xD9]
  | .set3D => [0xCB, 0xDA]
  | .set3E => [0xCB, 0xDB]
  | .set3H => [0xCB, 0xDC]
  | .set3L => [0xCB, 0xDD]
  | .set3AtHL => [0xCB, 0xDE]
  | .set3A => [0xCB, 0xDF]
  | .set4B => [0xCB, 0xE0]
  | .set4C => [0xCB, 0xE1]
  | .set4D => [0xCB, 0xE2]
  | .set4E => [0xCB, 0xE3]
  | .set4H => [0xCB, 0xE4]
  | .set4L => [0xCB, 0xE5]
  | .set4AtHL => [0xCB, 0xE6]
  | .set4A => [0xCB, 0xE7]
  | .set5B => [0xCB, 0xE8]
  | .set5C => [0xCB, 0xE9]
  | .set5D => [0xCB, 0xEA]
  | .set5E => [0xCB, 0xEB]
  | .set5H => [0xCB, 0xEC]
  | .set5L => [0xCB, 0xED]
  | .set5AtHL => [0xCB, 0xEE]
  | .set5A => [0xCB, 0xEF]
  | .set6B => [0xCB, 0xF0]
  | .set6C => [0xCB, 0xF1]
  | .set6D => [0xCB, 0xF2]
  | .set6E => [0xCB, 0xF3]
  | .set6H => [0xCB, 0xF4]
  | .set6L => [0xCB, 0xF5]
  | .set6AtHL => [0xCB, 0xF6]
  | .set6A => [0xCB, 0xF7]
  | .set7B => [0xCB, 0xF8]
  | .set7C => [0xCB, 0xF9]
  | .set7D => [0xCB, 0xFA]
  | .set7E => [0xCB, 0xFB]
  | .set7H => [0xCB, 0xFC]
  | .set7L => [0xCB, 0xFD]
  | .set7AtHL => [0xCB, 0xFE]
  | .set7A => [0xCB, 0xFF]

/-- The length in bytes (R120; the column `length` of spec/opcode_table.json). -/
def Instr.length : Instr → Nat
  | .nop | .ldAtBCA | .incBC | .incB | .decB | .rlca | .addHLBC | .ldAAtBC | .decBC | .incC
  | .decC | .rrca | .ldAtDEA | .incDE | .incD | .decD | .rla | .addHLDE | .ldAAtDE | .decDE
  | .incE | .decE | .rra | .ldAtHLIncA | .incHL | .incH | .decH | .daa | .addHLHL | .ldAAtHLInc
  | .decHL | .incL | .decL | .cpl | .ldAtHLDecA | .incSP | .incAtHL | .decAtHL | .scf | .addHLSP
  | .ldAAtHLDec | .decSP | .incA | .decA | .ccf | .ldBB | .ldBC | .ldBD | .ldBE | .ldBH | .ldBL
  | .ldBAtHL | .ldBA | .ldCB | .ldCC | .ldCD | .ldCE | .ldCH | .ldCL | .ldCAtHL | .ldCA | .ldDB
  | .ldDC | .ldDD | .ldDE | .ldDH | .ldDL | .ldDAtHL | .ldDA | .ldEB | .ldEC | .ldED | .ldEE
  | .ldEH | .ldEL | .ldEAtHL | .ldEA | .ldHB | .ldHC | .ldHD | .ldHE | .ldHH | .ldHL | .ldHAtHL
  | .ldHA | .ldLB | .ldLC | .ldLD | .ldLE | .ldLH | .ldLL | .ldLAtHL | .ldLA | .ldAtHLB
  | .ldAtHLC | .ldAtHLD | .ldAtHLE | .ldAtHLH | .ldAtHLL | .halt | .ldAtHLA | .ldAB | .ldAC
  | .ldAD | .ldAE | .ldAH | .ldAL | .ldAAtHL | .ldAA | .addAB | .addAC | .addAD | .addAE | .addAH
  | .addAL | .addAAtHL | .addAA | .adcAB | .adcAC | .adcAD | .adcAE | .adcAH | .adcAL | .adcAAtHL
  | .adcAA | .subAB | .subAC | .subAD | .subAE | .subAH | .subAL | .subAAtHL | .subAA | .sbcAB
  | .sbcAC | .sbcAD | .sbcAE | .sbcAH | .sbcAL | .sbcAAtHL | .sbcAA | .andAB | .andAC | .andAD
  | .andAE | .andAH | .andAL | .andAAtHL | .andAA | .xorAB | .xorAC | .xorAD | .xorAE | .xorAH
  | .xorAL | .xorAAtHL | .xorAA | .orAB | .orAC | .orAD | .orAE | .orAH | .orAL | .orAAtHL
  | .orAA | .cpAB | .cpAC | .cpAD | .cpAE | .cpAH | .cpAL | .cpAAtHL | .cpAA | .retNZ | .popBC
  | .pushBC | .rst00H | .retZ | .ret | .prefixCB | .rst08H | .retNC | .popDE | .undefinedD3
  | .pushDE | .rst10H | .retC | .reti | .undefinedDB | .undefinedDD | .rst18H | .popHL | .ldhAtCA
  | .undefinedE3 | .undefinedE4 | .pushHL | .rst20H | .jpHL | .undefinedEB | .undefinedEC
  | .undefinedED | .rst28H | .popAF | .ldhAAtC | .di | .undefinedF4 | .pushAF | .rst30H | .ldSPHL
  | .ei | .undefinedFC | .undefinedFD | .rst38H => 1
  | .ldBCImm16 _ | .ldAtNnSP _ | .ldDEImm16 _ | .ldHLImm16 _ | .ldSPImm16 _ | .jpNZImm16 _
  | .jpImm16 _ | .callNZImm16 _ | .jpZImm16 _ | .callZImm16 _ | .callImm16 _ | .jpNCImm16 _
  | .callNCImm16 _ | .jpCImm16 _ | .callCImm16 _ | .ldAtNnA _ | .ldAAtNn _ => 3
  | .ldBImm _ | .ldCImm _ | .stop _ | .ldDImm _ | .jrOff _ | .ldEImm _ | .jrNZOff _ | .ldHImm _
  | .jrZOff _ | .ldLImm _ | .jrNCOff _ | .ldAtHLImm _ | .jrCOff _ | .ldAImm _ | .addAImm _
  | .adcAImm _ | .subAImm _ | .sbcAImm _ | .ldhAtNA _ | .andAImm _ | .addSPOff _ | .xorAImm _
  | .ldhAAtN _ | .orAImm _ | .ldHLSPOff _ | .cpAImm _ | .rlcB | .rlcC | .rlcD | .rlcE | .rlcH
  | .rlcL | .rlcAtHL | .rlcA | .rrcB | .rrcC | .rrcD | .rrcE | .rrcH | .rrcL | .rrcAtHL | .rrcA
  | .rlB | .rlC | .rlD | .rlE | .rlH | .rlL | .rlAtHL | .rlA | .rrB | .rrC | .rrD | .rrE | .rrH
  | .rrL | .rrAtHL | .rrA | .slaB | .slaC | .slaD | .slaE | .slaH | .slaL | .slaAtHL | .slaA
  | .sraB | .sraC | .sraD | .sraE | .sraH | .sraL | .sraAtHL | .sraA | .swapB | .swapC | .swapD
  | .swapE | .swapH | .swapL | .swapAtHL | .swapA | .srlB | .srlC | .srlD | .srlE | .srlH | .srlL
  | .srlAtHL | .srlA | .bit0B | .bit0C | .bit0D | .bit0E | .bit0H | .bit0L | .bit0AtHL | .bit0A
  | .bit1B | .bit1C | .bit1D | .bit1E | .bit1H | .bit1L | .bit1AtHL | .bit1A | .bit2B | .bit2C
  | .bit2D | .bit2E | .bit2H | .bit2L | .bit2AtHL | .bit2A | .bit3B | .bit3C | .bit3D | .bit3E
  | .bit3H | .bit3L | .bit3AtHL | .bit3A | .bit4B | .bit4C | .bit4D | .bit4E | .bit4H | .bit4L
  | .bit4AtHL | .bit4A | .bit5B | .bit5C | .bit5D | .bit5E | .bit5H | .bit5L | .bit5AtHL | .bit5A
  | .bit6B | .bit6C | .bit6D | .bit6E | .bit6H | .bit6L | .bit6AtHL | .bit6A | .bit7B | .bit7C
  | .bit7D | .bit7E | .bit7H | .bit7L | .bit7AtHL | .bit7A | .res0B | .res0C | .res0D | .res0E
  | .res0H | .res0L | .res0AtHL | .res0A | .res1B | .res1C | .res1D | .res1E | .res1H | .res1L
  | .res1AtHL | .res1A | .res2B | .res2C | .res2D | .res2E | .res2H | .res2L | .res2AtHL | .res2A
  | .res3B | .res3C | .res3D | .res3E | .res3H | .res3L | .res3AtHL | .res3A | .res4B | .res4C
  | .res4D | .res4E | .res4H | .res4L | .res4AtHL | .res4A | .res5B | .res5C | .res5D | .res5E
  | .res5H | .res5L | .res5AtHL | .res5A | .res6B | .res6C | .res6D | .res6E | .res6H | .res6L
  | .res6AtHL | .res6A | .res7B | .res7C | .res7D | .res7E | .res7H | .res7L | .res7AtHL | .res7A
  | .set0B | .set0C | .set0D | .set0E | .set0H | .set0L | .set0AtHL | .set0A | .set1B | .set1C
  | .set1D | .set1E | .set1H | .set1L | .set1AtHL | .set1A | .set2B | .set2C | .set2D | .set2E
  | .set2H | .set2L | .set2AtHL | .set2A | .set3B | .set3C | .set3D | .set3E | .set3H | .set3L
  | .set3AtHL | .set3A | .set4B | .set4C | .set4D | .set4E | .set4H | .set4L | .set4AtHL | .set4A
  | .set5B | .set5C | .set5D | .set5E | .set5H | .set5L | .set5AtHL | .set5A | .set6B | .set6C
  | .set6D | .set6E | .set6H | .set6L | .set6AtHL | .set6A | .set7B | .set7C | .set7D | .set7E
  | .set7H | .set7L | .set7AtHL | .set7A => 2

/-- The M-cycles, taken and not taken (R425; the column `cycles` of spec/opcode_table.json; the two
are equal for an unconditional instruction). For `PREFIX_CB` the table counts the fetch of the prefix
byte alone. -/
def Instr.mCycles : Instr → Nat × Nat
  | .nop | .incB | .decB | .rlca | .incC | .decC | .rrca | .incD | .decD | .rla | .incE | .decE
  | .rra | .incH | .decH | .daa | .incL | .decL | .cpl | .scf | .incA | .decA | .ccf | .ldBB
  | .ldBC | .ldBD | .ldBE | .ldBH | .ldBL | .ldBA | .ldCB | .ldCC | .ldCD | .ldCE | .ldCH | .ldCL
  | .ldCA | .ldDB | .ldDC | .ldDD | .ldDE | .ldDH | .ldDL | .ldDA | .ldEB | .ldEC | .ldED | .ldEE
  | .ldEH | .ldEL | .ldEA | .ldHB | .ldHC | .ldHD | .ldHE | .ldHH | .ldHL | .ldHA | .ldLB | .ldLC
  | .ldLD | .ldLE | .ldLH | .ldLL | .ldLA | .halt | .ldAB | .ldAC | .ldAD | .ldAE | .ldAH | .ldAL
  | .ldAA | .addAB | .addAC | .addAD | .addAE | .addAH | .addAL | .addAA | .adcAB | .adcAC
  | .adcAD | .adcAE | .adcAH | .adcAL | .adcAA | .subAB | .subAC | .subAD | .subAE | .subAH
  | .subAL | .subAA | .sbcAB | .sbcAC | .sbcAD | .sbcAE | .sbcAH | .sbcAL | .sbcAA | .andAB
  | .andAC | .andAD | .andAE | .andAH | .andAL | .andAA | .xorAB | .xorAC | .xorAD | .xorAE
  | .xorAH | .xorAL | .xorAA | .orAB | .orAC | .orAD | .orAE | .orAH | .orAL | .orAA | .cpAB
  | .cpAC | .cpAD | .cpAE | .cpAH | .cpAL | .cpAA | .prefixCB | .undefinedD3 | .undefinedDB
  | .undefinedDD | .undefinedE3 | .undefinedE4 | .jpHL | .undefinedEB | .undefinedEC
  | .undefinedED | .di | .undefinedF4 | .ei | .undefinedFC | .undefinedFD => (1, 1)
  | .ldBCImm16 _ | .ldDEImm16 _ | .jrOff _ | .ldHLImm16 _ | .ldSPImm16 _ | .incAtHL | .decAtHL
  | .ldAtHLImm _ | .popBC | .popDE | .ldhAtNA _ | .popHL | .ldhAAtN _ | .popAF | .ldHLSPOff _
  | .bit0AtHL | .bit1AtHL | .bit2AtHL | .bit3AtHL | .bit4AtHL | .bit5AtHL | .bit6AtHL | .bit7AtHL => (3, 3)
  | .ldAtBCA | .incBC | .ldBImm _ | .addHLBC | .ldAAtBC | .decBC | .ldCImm _ | .stop _ | .ldAtDEA
  | .incDE | .ldDImm _ | .addHLDE | .ldAAtDE | .decDE | .ldEImm _ | .ldAtHLIncA | .incHL
  | .ldHImm _ | .addHLHL | .ldAAtHLInc | .decHL | .ldLImm _ | .ldAtHLDecA | .incSP | .addHLSP
  | .ldAAtHLDec | .decSP | .ldAImm _ | .ldBAtHL | .ldCAtHL | .ldDAtHL | .ldEAtHL | .ldHAtHL
  | .ldLAtHL | .ldAtHLB | .ldAtHLC | .ldAtHLD | .ldAtHLE | .ldAtHLH | .ldAtHLL | .ldAtHLA
  | .ldAAtHL | .addAAtHL | .adcAAtHL | .subAAtHL | .sbcAAtHL | .andAAtHL | .xorAAtHL | .orAAtHL
  | .cpAAtHL | .addAImm _ | .adcAImm _ | .subAImm _ | .sbcAImm _ | .ldhAtCA | .andAImm _
  | .xorAImm _ | .ldhAAtC | .orAImm _ | .ldSPHL | .cpAImm _ | .rlcB | .rlcC | .rlcD | .rlcE
  | .rlcH | .rlcL | .rlcA | .rrcB | .rrcC | .rrcD | .rrcE | .rrcH | .rrcL | .rrcA | .rlB | .rlC
  | .rlD | .rlE | .rlH | .rlL | .rlA | .rrB | .rrC | .rrD | .rrE | .rrH | .rrL | .rrA | .slaB
  | .slaC | .slaD | .slaE | .slaH | .slaL | .slaA | .sraB | .sraC | .sraD | .sraE | .sraH | .sraL
  | .sraA | .swapB | .swapC | .swapD | .swapE | .swapH | .swapL | .swapA | .srlB | .srlC | .srlD
  | .srlE | .srlH | .srlL | .srlA | .bit0B | .bit0C | .bit0D | .bit0E | .bit0H | .bit0L | .bit0A
  | .bit1B | .bit1C | .bit1D | .bit1E | .bit1H | .bit1L | .bit1A | .bit2B | .bit2C | .bit2D
  | .bit2E | .bit2H | .bit2L | .bit2A | .bit3B | .bit3C | .bit3D | .bit3E | .bit3H | .bit3L
  | .bit3A | .bit4B | .bit4C | .bit4D | .bit4E | .bit4H | .bit4L | .bit4A | .bit5B | .bit5C
  | .bit5D | .bit5E | .bit5H | .bit5L | .bit5A | .bit6B | .bit6C | .bit6D | .bit6E | .bit6H
  | .bit6L | .bit6A | .bit7B | .bit7C | .bit7D | .bit7E | .bit7H | .bit7L | .bit7A | .res0B
  | .res0C | .res0D | .res0E | .res0H | .res0L | .res0A | .res1B | .res1C | .res1D | .res1E
  | .res1H | .res1L | .res1A | .res2B | .res2C | .res2D | .res2E | .res2H | .res2L | .res2A
  | .res3B | .res3C | .res3D | .res3E | .res3H | .res3L | .res3A | .res4B | .res4C | .res4D
  | .res4E | .res4H | .res4L | .res4A | .res5B | .res5C | .res5D | .res5E | .res5H | .res5L
  | .res5A | .res6B | .res6C | .res6D | .res6E | .res6H | .res6L | .res6A | .res7B | .res7C
  | .res7D | .res7E | .res7H | .res7L | .res7A | .set0B | .set0C | .set0D | .set0E | .set0H
  | .set0L | .set0A | .set1B | .set1C | .set1D | .set1E | .set1H | .set1L | .set1A | .set2B
  | .set2C | .set2D | .set2E | .set2H | .set2L | .set2A | .set3B | .set3C | .set3D | .set3E
  | .set3H | .set3L | .set3A | .set4B | .set4C | .set4D | .set4E | .set4H | .set4L | .set4A
  | .set5B | .set5C | .set5D | .set5E | .set5H | .set5L | .set5A | .set6B | .set6C | .set6D
  | .set6E | .set6H | .set6L | .set6A | .set7B | .set7C | .set7D | .set7E | .set7H | .set7L
  | .set7A => (2, 2)
  | .ldAtNnSP _ => (5, 5)
  | .jrNZOff _ | .jrZOff _ | .jrNCOff _ | .jrCOff _ => (3, 2)
  | .retNZ | .retZ | .retNC | .retC => (5, 2)
  | .jpNZImm16 _ | .jpZImm16 _ | .jpNCImm16 _ | .jpCImm16 _ => (4, 3)
  | .jpImm16 _ | .pushBC | .rst00H | .ret | .rst08H | .pushDE | .rst10H | .reti | .rst18H
  | .pushHL | .rst20H | .addSPOff _ | .ldAtNnA _ | .rst28H | .pushAF | .rst30H | .ldAAtNn _
  | .rst38H | .rlcAtHL | .rrcAtHL | .rlAtHL | .rrAtHL | .slaAtHL | .sraAtHL | .swapAtHL
  | .srlAtHL | .res0AtHL | .res1AtHL | .res2AtHL | .res3AtHL | .res4AtHL | .res5AtHL | .res6AtHL
  | .res7AtHL | .set0AtHL | .set1AtHL | .set2AtHL | .set3AtHL | .set4AtHL | .set5AtHL | .set6AtHL
  | .set7AtHL => (4, 4)
  | .callNZImm16 _ | .callZImm16 _ | .callNCImm16 _ | .callCImm16 _ => (6, 3)
  | .callImm16 _ => (6, 6)

end Sys2Proof
end

