-- ==== Sys2Proof/Machine/State.lean ====
section
/-! DEFINITION. The machine's state as plain data (spec/10_state.md), its faults and refusals, and
the state right after reset (R68, R401). -/

namespace Sys2Proof.Machine

/-- The four flags, bits 7..4 of F (R23). Bits 3..0 of F are hard-wired to zero and not stored. -/
structure Flags where
  z : Bool
  n : Bool
  h : Bool
  c : Bool
  deriving DecidableEq, Repr

/-- CPU registers (R21 to R26) and control bits (R27 to R31). -/
structure Cpu where
  a         : Byte
  b         : Byte
  c         : Byte
  d         : Byte
  e         : Byte
  h         : Byte
  l         : Byte
  flags     : Flags
  sp        : Word
  pc        : Word
  ime       : Bool
  eiCounter : Nat
  halted    : Bool
  stopped   : Bool
  haltBug   : Bool
  deriving DecidableEq, Repr

/-- The interrupt controller: IE (R35) and the five stored bits of IF (R36). -/
structure Irq where
  ie    : Byte
  flags : BitVec 5
  deriving DecidableEq, Repr

/-- The timer (R37 to R41). -/
structure Timer where
  counter     : Word
  tima        : Byte
  tma         : Byte
  tac         : BitVec 3
  reloadDelay : Nat
  deriving DecidableEq, Repr

/-- The transfer state of a DMA engine (R42, R43). -/
inductive TransferState where
  | requested
  | settingUp
  | running
  | stopped
  deriving DecidableEq, Repr

/-- The OAM DMA engine (R42). -/
structure OamDma where
  page   : Byte
  state  : TransferState
  shadow : TransferState
  index  : Nat
  deriving DecidableEq, Repr

/-- `hdmaMode` (R43): 0 = general-purpose, 1 = HBlank-gated. -/
inductive HdmaMode where
  | general
  | hblank
  deriving DecidableEq, Repr

/-- `hdmaSub` (R43). -/
inductive HdmaSub where
  | awaitingHBlank
  | copying
  | finishedLine
  deriving DecidableEq, Repr

/-- The HDMA engine (R43); without `ENHANCED` nothing reads or writes it. -/
structure Hdma where
  src   : Word
  dst   : Word
  mode  : HdmaMode
  state : TransferState
  sub   : HdmaSub
  total : Nat
  block : Nat
  deriving DecidableEq, Repr

/-- The PPU mode (R51). -/
inductive Mode where
  | hblank
  | vblank
  | oamScan
  | pixelTransfer
  deriving DecidableEq, Repr

/-- PPU registers and timing state (R45 to R54). -/
structure Ppu where
  lcdc     : Byte
  statEn   : BitVec 4
  scy      : Byte
  scx      : Byte
  wy       : Byte
  wx       : Byte
  ly       : Byte
  lyc      : Byte
  bgp      : Byte
  obp0     : Byte
  obp1     : Byte
  mode     : Mode
  dot      : Nat
  len3     : Nat
  statLine : Bool
  deriving DecidableEq, Repr

/-- Bank selects (R56, R57), the boot flag (R59), controller (R60) and serial (R61) latches. -/
structure IoLatches where
  vbk        : BitVec 1
  svbk       : BitVec 3
  bootActive : Bool
  joySelect  : BitVec 2
  keysDpad   : BitVec 4
  keysBtn    : BitVec 4
  sb         : Byte
  sc         : Byte
  deriving DecidableEq, Repr

/-- The registers of R66, by name; the audio block is one entry with its address. -/
inductive IoReg where
  | p1 | sb | sc | div | tima | tma | tac | iflag
  | audio (addr : Word)
  | lcdc | stat | scy | scx | ly | lyc | dma | bgp | obp0 | obp1 | wy | wx
  | vbk | bootOff | hdma1 | hdma2 | hdma3 | hdma4 | hdma5 | svbk
  deriving DecidableEq, Repr

/-- Memory: the bytes that differ from 0x00, by cell number, in rising order (R55 to R58, R77).
An unlisted cell reads 0x00, its reset value in R68. Which cell a bus address reaches is
`State.route`. -/
abbrev Memory := List Host.Cell

/-- The canonical form: cell numbers strictly rise and no listed byte is 0x00. -/
abbrev Memory.wf (m : Memory) : Prop :=
  m.Pairwise (fun p q => p.1 < q.1) ∧ ∀ p ∈ m, p.2 ≠ 0

/-- The whole machine (R20). `inputs` and `calls` are the model's own (log 8, log 9). -/
structure State where
  params        : Params
  cpu           : Cpu
  irq           : Irq
  timer         : Timer
  dma           : OamDma
  hdma          : Hdma
  ppu           : Ppu
  io            : IoLatches
  mem           : Memory
  elapsedCycles : Nat
  inputs        : List HostInput
  calls         : List HostCall
  deriving DecidableEq, Repr

/-! ## Replacing one part of the machine -/

def State.withCpu (s : State) (r : Cpu) : State := { s with cpu := r }
def State.withIrq (s : State) (q : Irq) : State := { s with irq := q }
def State.withTimer (s : State) (t : Timer) : State := { s with timer := t }
def State.withDma (s : State) (d : OamDma) : State := { s with dma := d }
def State.withHdma (s : State) (h : Hdma) : State := { s with hdma := h }
def State.withPpu (s : State) (p : Ppu) : State := { s with ppu := p }
def State.withIo (s : State) (l : IoLatches) : State := { s with io := l }
def State.withMem (s : State) (m : Memory) : State := { s with mem := m }
def State.withElapsed (s : State) (n : Nat) : State := { s with elapsedCycles := n }
def State.withInputs (s : State) (l : List HostInput) : State := { s with inputs := l }
def State.withCalls (s : State) (l : List HostCall) : State := { s with calls := l }

/-- Records a call to a collaborator (log 9). -/
def State.record (s : State) (c : HostCall) : State := s.withCalls (c :: s.calls)

/-- What stops the machine. -/
inductive Fault where
  /-- `FatalDecodeError(opcode)` (R305): raised by the eleven unassigned opcodes and only under
  `UNDEFINED_OPCODE_POLICY = fault` (R296). `frozen` is the state the machine stays in for good: as it was
  after the opcode fetch, PC past the opcode, no further tick. Safe: the machine of the spec stops there
  too. -/
  | fatalDecode (opcode : Byte) (frozen : State)
  deriving DecidableEq, Repr

/-- Why a step has no meaning. -/
inductive Refusal where
  /-- An arm of `exec` whose instruction has no meaning yet; no arm uses it. Safe. -/
  | notModelled (mnemonic : String)
  /-- The decoder refused the bytes the fetch read; by R132 no byte is refused, so no step answers
  this (log 19). Safe. -/
  | undecodable (opcode : Byte)
  deriving DecidableEq, Repr

/-- The CPU's part of R68: column "cold", "post-boot" and "post-boot, ENHANCED". -/
def Cpu.resetWith (p : Params) : Cpu :=
  if p.bootImage.isSome then
    { a := 0, b := 0, c := 0, d := 0, e := 0, h := 0, l := 0
      flags := { z := false, n := false, h := false, c := false }
      sp := 0x0000, pc := 0x0000
      ime := false, eiCounter := 0, halted := false, stopped := false, haltBug := false }
  else if p.enhanced then
    { a := 0x11, b := 0x00, c := 0x00, d := 0xFF, e := 0x56, h := 0x00, l := 0x0D
      flags := { z := true, n := false, h := false, c := false }
      sp := 0xFFFE, pc := 0x0100
      ime := false, eiCounter := 0, halted := false, stopped := false, haltBug := false }
  else
    { a := 0x01, b := 0x00, c := 0x13, d := 0x00, e := 0xD8, h := 0x01, l := 0x4D
      flags := { z := true, n := false, h := true, c := true }
      sp := 0xFFFE, pc := 0x0100
      ime := false, eiCounter := 0, halted := false, stopped := false, haltBug := false }

/-- The PPU's part of R68. -/
def Ppu.resetWith (p : Params) : Ppu :=
  { lcdc := if p.bootImage.isSome then 0x00 else 0x91
    statEn := 0, scy := 0, scx := 0, wy := 0, wx := 0, ly := 0, lyc := 0
    bgp := if p.bootImage.isSome then 0x00 else 0xFC
    obp0 := if p.bootImage.isSome then 0x00 else 0xFF
    obp1 := if p.bootImage.isSome then 0x00 else 0xFF
    mode := if p.bootImage.isSome then .hblank else .oamScan
    dot := 0, len3 := 172, statLine := false }

/-- `Reset(ENHANCED, BOOT_IMAGE)` (R401), every element at its value in R68. -/
def State.resetWith (p : Params) : State :=
  { params := p
    cpu := Cpu.resetWith p
    irq := { ie := 0x00, flags := 0 }
    timer := { counter := 0x0000, tima := 0, tma := 0, tac := 0, reloadDelay := 0 }
    dma := { page := 0x00, state := .stopped, shadow := .stopped, index := 0 }
    hdma := { src := 0x0000, dst := 0x8000, mode := .general, state := .stopped
              sub := .awaitingHBlank, total := 0, block := 0 }
    ppu := Ppu.resetWith p
    io := { vbk := 0, svbk := 0, bootActive := p.bootImage.isSome, joySelect := 0b11
            keysDpad := 0, keysBtn := 0, sb := 0x00, sc := 0x00 }
    mem := []
    elapsedCycles := 0
    inputs := []
    calls := [] }

/-- The machine right after reset, with the parameters of `Params.default` (log 3). -/
def State.reset : State := State.resetWith Params.default

end Sys2Proof.Machine
end

