-- ==== Sys2Proof/Machine/Flags.lean ====
section
/-! DEFINITION. Every result and flag computation of the ALU, as functions of the operands and the
incoming flags: 8-bit arithmetic and logic (spec/42_alu8.md), 16-bit and SP-relative addition
(spec/43_alu16.md, R175), rotates and shifts (spec/44_rotate_shift_bit.md), and F as a byte (R23).
As in R8, sums are taken over the natural numbers or the integers and truncated at the end. -/

namespace Sys2Proof.Machine

/-- F as a byte (R23): ZF, NF, HF, CF in bits 7..4, bits 3..0 zero. -/
def Flags.toByte (f : Flags) : Byte :=
  BitVec.ofBool f.z ++ BitVec.ofBool f.n ++ BitVec.ofBool f.h ++ BitVec.ofBool f.c ++ 0#4

/-- The flags a byte written to F stores (R23): bits 3..0 are dropped. -/
def Flags.ofByte (v : Byte) : Flags :=
  { z := v.getLsbD 7, n := v.getLsbD 6, h := v.getLsbD 5, c := v.getLsbD 4 }

/-- Bits 3..0 of a byte as a number. -/
def lowNibble (v : Byte) : Nat := v.toNat % 16

/-- `Add8(a, v, c)` (R180). -/
def add8 (a v : Byte) (c : Bool) : Byte × Flags :=
  let sum := a.toNat + v.toNat + c.toNat
  let res := BitVec.ofNat 8 sum
  (res, { z := res == 0, n := false
          h := decide (lowNibble a + lowNibble v + c.toNat > 0xF)
          c := decide (sum > 0xFF) })

/-- `Sub8(a, v, c)` (R180). -/
def sub8 (a v : Byte) (c : Bool) : Byte × Flags :=
  let diff : Int := (a.toNat : Int) - v.toNat - c.toNat
  let res := BitVec.ofInt 8 diff
  (res, { z := res == 0, n := true
          h := decide ((lowNibble a : Int) - lowNibble v - c.toNat < 0)
          c := decide (diff < 0) })

/-- The flags of AND (`h = true`, R193), XOR and OR (`h = false`, R196, R199). -/
def logicFlags (res : Byte) (h : Bool) : Flags :=
  { z := res == 0, n := false, h := h, c := false }

/-- `alu[y] A,v` (R180): the new A and the new flags. CP leaves A (R202). -/
def alu : AluOp → Byte → Byte → Flags → Byte × Flags
  | .add, a, v, _ => add8 a v false
  | .adc, a, v, f => add8 a v f.c
  | .sub, a, v, _ => sub8 a v false
  | .sbc, a, v, f => sub8 a v f.c
  | .and, a, v, _ => (a &&& v, logicFlags (a &&& v) true)
  | .xor, a, v, _ => (a ^^^ v, logicFlags (a ^^^ v) false)
  | .or, a, v, _ => (a ||| v, logicFlags (a ||| v) false)
  | .cp, a, v, _ => (a, (sub8 a v false).2)

/-- INC of a byte (R205): CF kept. -/
def inc8 (old : Byte) (f : Flags) : Byte × Flags :=
  (old + 1, { f with z := old + 1 == 0, n := false, h := lowNibble old == 0xF })

/-- DEC of a byte (R207): CF kept. -/
def dec8 (old : Byte) (f : Flags) : Byte × Flags :=
  (old - 1, { f with z := old - 1 == 0, n := true, h := lowNibble old == 0 })

/-- DAA (R209). Both tests of the addition branch look at the A before the instruction. -/
def daa (a : Byte) (f : Flags) : Byte × Flags :=
  let low : Byte := if f.h || (!f.n && decide (lowNibble a > 0x9)) then 0x06 else 0
  let high := f.c || (!f.n && decide (a.toNat > 0x99))
  let adj : Byte := low ||| (if high then 0x60 else 0)
  let res := if f.n then a - adj else a + adj
  (res, { f with z := res == 0, h := false, c := high })

/-- CPL (R210). -/
def cpl (a : Byte) (f : Flags) : Byte × Flags := (~~~a, { f with n := true, h := true })

/-- SCF (R211). -/
def scf (f : Flags) : Flags := { f with n := false, h := false, c := true }

/-- CCF (R212). -/
def ccf (f : Flags) : Flags := { f with n := false, h := false, c := !f.c }

/-- ADD HL,rr (R220): ZF kept, carries out of bits 11 and 15. -/
def addHL (hl v : Word) (f : Flags) : Word × Flags :=
  let sum := hl.toNat + v.toNat
  (BitVec.ofNat 16 sum,
    { f with n := false
             h := decide (hl.toNat % 0x1000 + v.toNat % 0x1000 > 0xFFF)
             c := decide (sum > 0xFFFF) })

/-- `SP + e` (R175, R223): the sum with `sext_16(e)`; HF and CF are the carries out of bits 3 and 7
of the unsigned sum of SP's low byte and the raw byte `e`. -/
def addSPOffset (sp : Word) (e : Byte) : Word × Flags :=
  (sp + e.signExtend 16,
    { z := false, n := false
      h := decide (sp.toNat % 16 + lowNibble e > 0xF)
      c := decide (sp.toNat % 256 + e.toNat > 0xFF) })

/-- The eight rotates and shifts (R230): the result and the new carry. -/
def rotate : RotOp → Byte → Bool → Byte × Bool
  | .rlc, v, _ => (v.rotateLeft 1, v.getLsbD 7)
  | .rrc, v, _ => (v.rotateRight 1, v.getLsbD 0)
  | .rl, v, cf => (v.extractLsb' 0 7 ++ BitVec.ofBool cf, v.getLsbD 7)
  | .rr, v, cf => (BitVec.ofBool cf ++ v.extractLsb' 1 7, v.getLsbD 0)
  | .sla, v, _ => (v <<< 1, v.getLsbD 7)
  | .sra, v, _ => (v.sshiftRight 1, v.getLsbD 0)
  | .swap, v, _ => (v.extractLsb' 0 4 ++ v.extractLsb' 4 4, false)
  | .srl, v, _ => (v >>> 1, v.getLsbD 0)

/-- A CB rotate or shift: ZF from the result, NF = HF = 0, CF the new carry (R230). -/
def rotateCB (op : RotOp) (v : Byte) (f : Flags) : Byte × Flags :=
  let r := rotate op v f.c
  (r.1, { z := r.1 == 0, n := false, h := false, c := r.2 })

/-- An accumulator rotate: as the CB form, but ZF = 0 always (R230, R231 to R234). -/
def rotateA (op : RotOp) (a : Byte) (f : Flags) : Byte × Flags :=
  let r := rotate op a f.c
  (r.1, { z := false, n := false, h := false, c := r.2 })

/-- A bit index as a number. -/
def bitNumber : BitIdx → Nat
  | .b0 => 0
  | .b1 => 1
  | .b2 => 2
  | .b3 => 3
  | .b4 => 4
  | .b5 => 5
  | .b6 => 6
  | .b7 => 7

/-- The flags of BIT b (R251): CF kept. -/
def bitFlags (b : BitIdx) (v : Byte) (f : Flags) : Flags :=
  { f with z := !v.getLsbD (bitNumber b), n := false, h := true }

/-- `v & ~(1 << b)` (R253). -/
def resetBit (b : BitIdx) (v : Byte) : Byte := v &&& ~~~((1 : Byte) <<< bitNumber b)

/-- `v | (1 << b)` (R255). -/
def setBit (b : BitIdx) (v : Byte) : Byte := v ||| ((1 : Byte) <<< bitNumber b)

end Sys2Proof.Machine
end

