-- ==== Sys2Proof/Machine/Operands.lean ====
section
/-! DEFINITION. Registers, register pairs and conditions (spec/10_state.md R21, R22, R270): the one
place that reads or writes them. The memory operands are `State.busRead` and `State.busWrite` of
Machine/Bus.lean at the addresses of R123. -/

namespace Sys2Proof.Machine

/-- `x[i]` (R9). -/
def Cpu.reg (r : Cpu) : Reg8 → Byte
  | .b => r.b
  | .c => r.c
  | .d => r.d
  | .e => r.e
  | .h => r.h
  | .l => r.l
  | .a => r.a

/-- `x[i] <- v` (R9). -/
def Cpu.setReg (r : Cpu) : Reg8 → Byte → Cpu
  | .b, v => { r with b := v }
  | .c, v => { r with c := v }
  | .d, v => { r with d := v }
  | .e, v => { r with e := v }
  | .h, v => { r with h := v }
  | .l, v => { r with l := v }
  | .a, v => { r with a := v }

def Cpu.bc (r : Cpu) : Word := joinBytes r.b r.c
def Cpu.de (r : Cpu) : Word := joinBytes r.d r.e
def Cpu.hl (r : Cpu) : Word := joinBytes r.h r.l
/-- AF, with F's bits 3..0 read as zero (R22, R23). -/
def Cpu.af (r : Cpu) : Word := joinBytes r.a r.flags.toByte

/-- Writing a pair writes both halves (R22). -/
def Cpu.setHL (r : Cpu) (w : Word) : Cpu := { r with h := highByte w, l := lowByte w }

/-- Reads `rp` (R22). -/
def Cpu.pair (r : Cpu) : Pair → Word
  | .bc => r.bc
  | .de => r.de
  | .hl => r.hl
  | .sp => r.sp

/-- Writes `rp` (R22). -/
def Cpu.setPair (r : Cpu) : Pair → Word → Cpu
  | .bc, w => { r with b := highByte w, c := lowByte w }
  | .de, w => { r with d := highByte w, e := lowByte w }
  | .hl, w => r.setHL w
  | .sp, w => { r with sp := w }

/-- Reads `rp2` (R22). -/
def Cpu.stackPair (r : Cpu) : StackPair → Word
  | .bc => r.bc
  | .de => r.de
  | .hl => r.hl
  | .af => r.af

/-- Writes `rp2` (R22, R174): the low half of AF stores only bits 7..4. -/
def Cpu.setStackPair (r : Cpu) : StackPair → Word → Cpu
  | .bc, w => { r with b := highByte w, c := lowByte w }
  | .de, w => { r with d := highByte w, e := lowByte w }
  | .hl, w => r.setHL w
  | .af, w => { r with a := highByte w, flags := Flags.ofByte (lowByte w) }

/-- The accumulator and the flags together, as every ALU rule writes them. -/
def Cpu.setAF (r : Cpu) (res : Byte × Flags) : Cpu := { r with a := res.1, flags := res.2 }

/-- `Cond(cc)` (R270). -/
def Flags.cond (f : Flags) : Cond → Bool
  | .nz => !f.z
  | .z => f.z
  | .nc => !f.c
  | .c => f.c

/-- `0xFF00 | zext_16(n)`, the high-page address (R123, R151 to R154). -/
def highPage (n : Byte) : Word := joinBytes 0xFF n

/-- `t = y * 8` as an address (R281). -/
def rstAddress : RstTarget → Word
  | .t00 => 0x0000
  | .t08 => 0x0008
  | .t10 => 0x0010
  | .t18 => 0x0018
  | .t20 => 0x0020
  | .t28 => 0x0028
  | .t30 => 0x0030
  | .t38 => 0x0038

end Sys2Proof.Machine
end

