-- ==== Sys2Proof/Machine/Interrupts.lean ====
section
/-! DEFINITION. The interrupt controller (spec/60_exceptions.md R301 to R304, R311) and the host's
input events (R375). -/

namespace Sys2Proof.Machine

/-- The bit of source `i` (R34). -/
def sourceMask (i : Fin 5) : BitVec 5 := 1#5 <<< i.val

/-- The fixed service address `0x0040 + 8 * i` (R34, R314). -/
def serviceAddress (i : Fin 5) : Word := BitVec.ofNat 16 (0x40 + 8 * i.val)

/-- `Request(i)` (R302). -/
def State.request (s : State) (i : Fin 5) : State :=
  s.withIrq { s.irq with flags := s.irq.flags ||| sourceMask i }

/-- `Clear(i)` (R303). -/
def State.clear (s : State) (i : Fin 5) : State :=
  s.withIrq { s.irq with flags := s.irq.flags &&& ~~~(sourceMask i) }

/-- `IE & IF & 0x1F` (R310). -/
def Irq.pending (q : Irq) : BitVec 5 := q.ie.extractLsb' 0 5 &&& q.flags

/-- The index of the lowest set bit (R311). -/
def lowestSource (p : BitVec 5) : Option (Fin 5) :=
  if p.getLsbD 0 then some 0
  else if p.getLsbD 1 then some 1
  else if p.getLsbD 2 then some 2
  else if p.getLsbD 3 then some 3
  else if p.getLsbD 4 then some 4
  else none

/-- `HdmaHaltsCpu()` = `HdmaBlocksInterrupts()` (R349). -/
def State.hdmaHaltsCpu (s : State) : Bool :=
  s.params.enhanced && s.hdma.state == .running && s.hdma.mode == .general

/-- The key's bit within its group (R60). -/
def keyBit : Key → BitVec 4
  | .right | .a => 0b0001
  | .left | .b => 0b0010
  | .up | .select => 0b0100
  | .down | .start => 0b1000

/-- Whether the key belongs to the direction pad. -/
def keyIsDpad : Key → Bool
  | .right | .left | .up | .down => true
  | .a | .b | .select | .start => false

/-- Whether the key's group is selected: its select bit is 0 (R60). -/
def State.keySelected (s : State) (k : Key) : Bool :=
  if keyIsDpad k then !s.io.joySelect.getLsbD 0 else !s.io.joySelect.getLsbD 1

/-- Records a key as held or released (R375). -/
def State.setKey (s : State) (k : Key) (held : Bool) : State :=
  let upd (g : BitVec 4) : BitVec 4 := if held then g ||| keyBit k else g &&& ~~~(keyBit k)
  if keyIsDpad k then s.withIo { s.io with keysDpad := upd s.io.keysDpad }
  else s.withIo { s.io with keysBtn := upd s.io.keysBtn }

/-- One host event (R375). `Request(4)` follows `KEY_IRQ`: at a selected key's `keyDown` (the
default), where the host's script says so, or never. -/
def State.hostEvent (s : State) : HostEvent → State
  | .keyDown k =>
    let s1 := s.setKey k true
    if s.params.keyIrq == .selected && s.keySelected k then s1.request 4 else s1
  | .keyUp k => s.setKey k false
  | .requestController => if s.params.keyIrq == .free then s.request 4 else s

/-- Applies the events of a script that are due, in the script's order, and keeps the rest. -/
def State.applyDue : List HostInput → State → State
  | [], s => s.withInputs []
  | x :: rest, s =>
    if x.due ≤ s.elapsedCycles then State.applyDue rest (s.hostEvent x.event)
    else s.withInputs (x :: rest)

/-- The host's events that are due before the coming tick (R373, R375, log 8). -/
def State.applyInputs (s : State) : State := State.applyDue s.inputs s

end Sys2Proof.Machine
end

