-- ==== Sys2Proof/Machine/Memory.lean ====
section
/-! DEFINITION. Reading and writing one cell of memory. An unlisted cell reads 0x00. -/

namespace Sys2Proof.Machine

/-- The byte of cell `k`. -/
def Memory.read : Memory → Nat → Byte
  | [], _ => 0
  | (a, v) :: rest, k => if a = k then v else Memory.read rest k

/-- Memory with byte `v` in cell `k`, the canonical form kept: 0x00 is stored by listing nothing. -/
def Memory.write : Memory → Nat → Byte → Memory
  | [], k, v => if v = 0 then [] else [(k, v)]
  | (a, w) :: rest, k, v =>
    if k < a then (if v = 0 then (a, w) :: rest else (k, v) :: (a, w) :: rest)
    else if k = a then (if v = 0 then rest else (k, v) :: rest)
    else (a, w) :: Memory.write rest k v

end Sys2Proof.Machine
end

