-- ==== Sys2Proof/Machine/Ppu.lean ====
section
/-! DEFINITION. The PPU's scanline timing (spec/60_exceptions.md R351 to R360). -/

namespace Sys2Proof.Machine

/-- `LCDC[7]` (R45). -/
def Ppu.lcdOn (p : Ppu) : Bool := p.lcdc.getLsbD 7

/-- The level of the STAT interrupt line (R360); `statEn` bits 3, 2, 1, 0 are STAT bits 6 (LY=LYC),
5 (OamScan), 4 (VBlank), 3 (HBlank) (R46). -/
def Ppu.statLevel (p : Ppu) : Bool :=
  (p.ly == p.lyc && p.statEn.getLsbD 3)
  || (p.mode == .hblank && p.statEn.getLsbD 0)
  || (p.mode == .vblank && (p.statEn.getLsbD 1 || p.statEn.getLsbD 2))
  || (p.mode == .oamScan && p.statEn.getLsbD 2)

/-- `UpdateStatLine()` (R360). -/
def State.updateStatLine (s : State) : State :=
  let line := s.ppu.statLevel
  let s1 := s.withPpu { s.ppu with statLine := line }
  if line && !s.ppu.statLine then s1.request 1 else s1

/-- The cell of OAM byte `i` (R55, log 22). -/
def oamCell (i : Nat) : Nat := 0xFE00 + i

/-- Whether sprite `i` is on line LY (R53). -/
def State.spriteOnLine (s : State) (i : Nat) : Bool :=
  let y := (s.mem.read (oamCell (4 * i))).toNat
  let h := if s.ppu.lcdc.getLsbD 2 then 16 else 8
  decide (y ≤ s.ppu.ly.toNat + 16) && decide (s.ppu.ly.toNat + 16 < y + h)

/-- `min(10, n)`, `n` the number of OAM entries on line LY (R53). -/
def State.spritesOnLine (s : State) : Nat :=
  min 10 ((List.range 40).countP s.spriteOnLine)

/-- `Len3()` (R354). -/
def State.pixelTransferLength (s : State) : Nat :=
  172 + s.ppu.scx.toNat % 8 + Config.spriteM3Cost.val * s.spritesOnLine

/-- The LCD-off part of the PPU step (R351), before the STAT line. -/
def Ppu.off (p : Ppu) : Ppu := { p with mode := .hblank, ly := 0, dot := 0 }

/-- The dot and line part of the LCD-on step (R352). -/
def Ppu.advance (p : Ppu) : Ppu :=
  if p.dot + 4 ≥ 456 then
    { p with dot := p.dot + 4 - 456, ly := BitVec.ofNat 8 ((p.ly.toNat + 1) % 154) }
  else { p with dot := p.dot + 4 }

/-- Whether this step is the one that leaves OamScan and latches `len3` (R353). -/
def Ppu.leavesOamScan (p : Ppu) : Bool :=
  decide (p.ly.toNat < 144) && decide (80 ≤ p.dot) && p.mode == .oamScan

/-- `NextMode()` (R353), the latch apart. -/
def Ppu.nextMode (p : Ppu) : Mode :=
  if p.ly.toNat ≥ 144 then .vblank
  else if p.dot < 80 then .oamScan
  else if p.mode == .oamScan then .pixelTransfer
  else if p.dot < 80 + p.len3 then .pixelTransfer
  else .hblank

/-- The entry actions of a mode (R356 to R359): VBlank requests source 0 and hands the frame over;
HBlank is the compositor event. -/
def State.enterMode (s : State) : Mode → State
  | .vblank => (s.request 0).record (.frameReady s.elapsedCycles)
  | .hblank => s.record (.compositeLine s.ppu.ly)
  | .oamScan => s
  | .pixelTransfer => s

/-- The latch of `len3` in the step that leaves OamScan (R353, R354). -/
def State.latchLength (s : State) : State :=
  if s.ppu.leavesOamScan then s.withPpu { s.ppu with len3 := s.pixelTransferLength } else s

/-- A change of mode, with its entry actions (R352). -/
def State.changeMode (s : State) (new : Mode) : State :=
  if new = s.ppu.mode then s else (s.withPpu { s.ppu with mode := new }).enterMode new

/-- `PpuStep()` (R351, R352). -/
def State.ppuStep (s : State) : State :=
  if s.ppu.lcdOn then
    let s1 := s.withPpu s.ppu.advance
    (s1.latchLength.changeMode s1.ppu.nextMode).updateStatLine
  else
    (s.withPpu s.ppu.off).updateStatLine

end Sys2Proof.Machine
end

