-- ==== Sys2Proof/Machine/Timer.lean ====
section
/-! DEFINITION. The timer (spec/60_exceptions.md R330 to R338). -/

namespace Sys2Proof.Machine

/-- `TIMER_BIT[TAC[1:0]]` (R40). -/
def timerBit (tac : BitVec 3) : Nat :=
  match tac.toNat % 4 with
  | 0 => 9
  | 1 => 3
  | 2 => 5
  | _ => 7

/-- `TAC[2]`, the enable bit (R40). -/
def Timer.enabled (t : Timer) : Bool := t.tac.getLsbD 2

/-- `TimaIncrement()` (R332). -/
def Timer.increment (t : Timer) : Timer :=
  if t.reloadDelay > 0 then t
  else if t.tima = 0xFF then { t with tima := 0x00, reloadDelay := 4 }
  else { t with tima := t.tima + 1 }

/-- A write to DIV (R334). -/
def Timer.divWrite (t : Timer) : Timer :=
  let t1 := if t.enabled && t.counter.getLsbD (timerBit t.tac) then t.increment else t
  { t1 with counter := 0 }

/-- The counter's part of the timer step (R331): advance by 4, and count a falling edge. -/
def Timer.advance (t : Timer) : Timer :=
  let t1 := { t with counter := t.counter + 4 }
  if t.enabled && t.counter.getLsbD (timerBit t.tac) && !t1.counter.getLsbD (timerBit t.tac) then
    t1.increment
  else t1

/-- Whether the reload window closes in this step (R331). -/
def Timer.closes (t : Timer) : Bool := decide (t.reloadDelay > 0) && decide (t.reloadDelay - 4 = 0)

/-- The reload part of the timer step (R331, R333). -/
def Timer.reload (t : Timer) : Timer :=
  { t with reloadDelay := t.reloadDelay - 4, tima := if t.closes then t.tma else t.tima }

/-- `TimerStep()` (R331): first the reload window (R333), then the counter. -/
def State.timerStep (s : State) : State :=
  let s1 := s.withTimer s.timer.reload.advance
  if s.timer.closes then s1.request 2 else s1

end Sys2Proof.Machine
end

