-- ==== Sys2Proof/Machine/Bus.lean ====
section
/-! DEFINITION. The bus (spec/20_memory.md): the routing table of R71, the regions, the I/O registers
of R66, and the CPU's accesses with their blocking rules. -/

namespace Sys2Proof.Machine

/-! ## Routing (R71) -/

/-- What an address reaches. `cell` numbers are those of `State.mem` (log 22). -/
inductive Target where
  | rom
  | vram (cell : Nat)
  | cartRam
  | wram (cell : Nat)
  | oam (cell : Nat)
  | gap
  | io
  | hram (cell : Nat)
  | ie
  deriving DecidableEq, Repr

/-- The selected video-memory bank (R56, R80). -/
def State.vramBank (s : State) : Nat := if s.params.enhanced then s.io.vbk.toNat else 0

/-- The selected working-RAM bank (R57, R82). -/
def State.wramBank (s : State) : Nat :=
  if s.params.enhanced && s.io.svbk != 0 then s.io.svbk.toNat else 1

/-- The cell of `VRAM[bank][a - 0x8000]` (R80); bank 0 has the bus addresses as its numbers. -/
def vramCell (bank a : Nat) : Nat := bank * 0x10000 + 0x8000 + a % 0x2000

/-- The cell of working RAM at offset `off` (R82): bank 0 below 0x1000, else the selected bank;
banks 0 and 1 have the bus addresses as their numbers. -/
def wramCell (bank off : Nat) : Nat :=
  if off < 0x1000 then 0xC000 + off else (bank - 1) * 0x10000 + 0xC000 + off

/-- The routing table, first match wins (R71). -/
def State.route (s : State) (a : Word) : Target :=
  let n := a.toNat
  if n < 0x8000 then .rom
  else if n < 0xA000 then .vram (vramCell s.vramBank n)
  else if n < 0xC000 then .cartRam
  else if n < 0xFE00 then .wram (wramCell s.wramBank (n % 0x2000))
  else if n < 0xFEA0 then .oam n
  else if n < 0xFF00 then .gap
  else if n < 0xFF80 then .io
  else if n < 0xFFFF then .hram n
  else .ie

/-! ## I/O registers (R66, R90) -/

/-- Every decoded I/O address but the audio block, with its register and whether only `ENHANCED`
decodes it (R66). -/
def ioMap : List (Nat × IoReg × Bool) :=
  [(0xFF00, .p1, false), (0xFF01, .sb, false), (0xFF02, .sc, false), (0xFF04, .div, false),
   (0xFF05, .tima, false), (0xFF06, .tma, false), (0xFF07, .tac, false), (0xFF0F, .iflag, false)]
  ++ [(0xFF40, .lcdc, false), (0xFF41, .stat, false), (0xFF42, .scy, false), (0xFF43, .scx, false),
   (0xFF44, .ly, false), (0xFF45, .lyc, false), (0xFF46, .dma, false), (0xFF47, .bgp, false),
   (0xFF48, .obp0, false), (0xFF49, .obp1, false), (0xFF4A, .wy, false), (0xFF4B, .wx, false)]
  ++ [(0xFF4F, .vbk, true), (0xFF50, .bootOff, false), (0xFF51, .hdma1, true),
   (0xFF52, .hdma2, true), (0xFF53, .hdma3, true), (0xFF54, .hdma4, true), (0xFF55, .hdma5, true),
   (0xFF70, .svbk, true)]

/-- The register decoded at an I/O address; `none` is an undecoded address (R66, R97). -/
def ioRegAt (enhanced : Bool) (a : Word) : Option IoReg :=
  if 0xFF10 ≤ a.toNat ∧ a.toNat ≤ 0xFF3F then some (.audio a)
  else
    match ioMap.find? (fun e => e.1 == a.toNat && (enhanced || !e.2.2)) with
    | some e => some e.2.1
    | none => none

/-- P1 as read (R60): each selected group is XORed into the low nibble. -/
def IoLatches.p1 (l : IoLatches) : Byte :=
  let low : BitVec 4 := 0xF
  let low := if l.joySelect.getLsbD 0 then low else low ^^^ l.keysDpad
  let low := if l.joySelect.getLsbD 1 then low else low ^^^ l.keysBtn
  0b11#2 ++ l.joySelect ++ low

/-- STAT as read (R46). -/
def Ppu.stat (p : Ppu) : Byte :=
  let mode : BitVec 2 := match p.mode with
    | .hblank => 0
    | .vblank => 1
    | .oamScan => 2
    | .pixelTransfer => 3
  1#1 ++ p.statEn ++ BitVec.ofBool (p.ly == p.lyc) ++ mode

/-- The 16-byte blocks an HDMA transfer has left, as HDMA5 counts them: the quotient of R348's integer division,
or, with `up`, a partly copied block counted as one block more (R44's words, log 13). -/
def Hdma.blocksLeft (h : Hdma) (up : Bool) : Nat :=
  if up then (h.total + 15) / 16 else h.total / 16

/-- HDMA5 as read (R44, R348). -/
def Hdma.status (h : Hdma) (up : Bool) : Byte :=
  if h.state = .stopped then 0xFF else (BitVec.ofNat 8 (h.blocksLeft up) - 1) &&& 0x7F

/-- The read column of R66. -/
def State.ioRead (s : State) (by_ : Agent) : IoReg → Byte
  | .p1 => s.io.p1
  | .sb => s.io.sb
  | .sc => s.io.sc
  | .div => highByte s.timer.counter
  | .tima => if s.timer.reloadDelay > 0 then 0 else s.timer.tima
  | .tma => s.timer.tma
  | .tac => 0b11111#5 ++ s.timer.tac
  | .iflag => 0b111#3 ++ s.irq.flags
  | .audio a => Config.audioRead s.calls s.elapsedCycles by_ a
  | .lcdc => s.ppu.lcdc
  | .stat => s.ppu.stat
  | .scy => s.ppu.scy
  | .scx => s.ppu.scx
  | .ly => s.ppu.ly
  | .lyc => s.ppu.lyc
  | .dma => s.dma.page
  | .bgp => s.ppu.bgp
  | .obp0 => s.ppu.obp0
  | .obp1 => s.ppu.obp1
  | .wy => s.ppu.wy
  | .wx => s.ppu.wx
  | .vbk => 0b1111111#7 ++ s.io.vbk
  | .bootOff => 0xFF
  | .hdma1 => 0xFF
  | .hdma2 => 0xFF
  | .hdma3 => 0xFF
  | .hdma4 => 0xFF
  | .hdma5 => s.hdma.status s.params.hdma5RoundsUp
  | .svbk => 0b11111#5 ++ s.io.svbk

/-- A write to the DMA register (R340). -/
def OamDma.start (d : OamDma) (v : Byte) : OamDma :=
  { d with page := v, shadow := d.state, state := .requested }

/-- A write to HDMA5 (R345). -/
def Hdma.start (h : Hdma) (v : Byte) : Hdma :=
  { h with mode := if v.getLsbD 7 then .hblank else .general
           total := (v.toNat % 128 + 1) * 16
           state := .requested }

/-- The write column of R66. -/
def State.ioWrite (s : State) (r : IoReg) (v : Byte) : State :=
  match r with
  | .p1 => s.withIo { s.io with joySelect := v.extractLsb' 4 2 }
  | .sb => s.withIo { s.io with sb := v }
  | .sc => s.withIo { s.io with sc := v }
  | .div => s.withTimer s.timer.divWrite
  | .tima => if s.timer.reloadDelay > 0 then s else s.withTimer { s.timer with tima := v }
  | .tma => s.withTimer { s.timer with tma := v }
  | .tac => s.withTimer { s.timer with tac := v.extractLsb' 0 3 }
  | .iflag => s.withIrq { s.irq with flags := v.extractLsb' 0 5 }
  | .audio a => s.record (.audioWrite s.elapsedCycles a v)
  | .lcdc => (s.withPpu { s.ppu with lcdc := v }).updateStatLine
  | .stat => (s.withPpu { s.ppu with statEn := v.extractLsb' 3 4 }).updateStatLine
  | .scy => s.withPpu { s.ppu with scy := v }
  | .scx => s.withPpu { s.ppu with scx := v }
  | .ly => s
  | .lyc => (s.withPpu { s.ppu with lyc := v }).updateStatLine
  | .dma => s.withDma (s.dma.start v)
  | .bgp => s.withPpu { s.ppu with bgp := v }
  | .obp0 => s.withPpu { s.ppu with obp0 := v }
  | .obp1 => s.withPpu { s.ppu with obp1 := v }
  | .wy => s.withPpu { s.ppu with wy := v }
  | .wx => s.withPpu { s.ppu with wx := v }
  | .vbk => s.withIo { s.io with vbk := v.extractLsb' 0 1 }
  | .bootOff => if v.getLsbD 0 then s.withIo { s.io with bootActive := false } else s
  | .hdma1 => s.withHdma { s.hdma with src := joinBytes v (lowByte s.hdma.src) }
  | .hdma2 => s.withHdma { s.hdma with src := joinBytes (highByte s.hdma.src) (v &&& 0xF0) }
  | .hdma3 =>
    s.withHdma { s.hdma with dst := joinBytes (0x80 ||| (v &&& 0x1F)) (lowByte s.hdma.dst) }
  | .hdma4 => s.withHdma { s.hdma with dst := joinBytes (highByte s.hdma.dst) (v &&& 0xF0) }
  | .hdma5 => s.withHdma (s.hdma.start v)
  | .svbk => s.withIo { s.io with svbk := v.extractLsb' 0 3 }

/-! ## Raw accesses: the routing without the blocking rules (R74) -/

/-- Whether `a` lies in the boot overlay's range (R75). -/
def inOverlay (enhanced : Bool) (a : Nat) : Bool :=
  decide (a < 0x100) || (enhanced && decide (0x200 ≤ a) && decide (a < 0x900))

/-- A read of the cartridge ROM region (R75, R78); the cartridge is the ROM-only instance of R77. -/
def State.romRead (s : State) (a : Word) : Byte :=
  let overlay : Option Byte :=
    if s.io.bootActive && inOverlay s.params.enhanced a.toNat then
      match s.params.bootImage with
      | some image => image[a.toNat]?
      | none => none
    else none
  match overlay with
  | some v => v
  | none => s.mem.read a.toNat

/-- `RawRead(a)` (R74), for the agent named. No read changes the state (R104). -/
def State.rawRead (s : State) (by_ : Agent) (a : Word) : Byte :=
  match s.route a with
  | .rom => s.romRead a
  | .vram k => s.mem.read k
  | .cartRam => 0xFF
  | .wram k => s.mem.read k
  | .oam k => s.mem.read k
  | .gap => 0xFF
  | .io =>
    match ioRegAt s.params.enhanced a with
    | some r => s.ioRead by_ r
    | none => 0xFF
  | .hram k => s.mem.read k
  | .ie => s.irq.ie

/-- `RawWrite(a, v)` (R74); the ROM-only cartridge ignores its writes (R77), which are recorded. -/
def State.rawWrite (s : State) (a : Word) (v : Byte) : State :=
  match s.route a with
  | .rom => s.record (.romWrite a v)
  | .vram k => s.withMem (s.mem.write k v)
  | .cartRam => s.record (.cartRamWrite a v)
  | .wram k => s.withMem (s.mem.write k v)
  | .oam k => s.withMem (s.mem.write k v)
  | .gap => s
  | .io =>
    match ioRegAt s.params.enhanced a with
    | some r => s.ioWrite r v
    | none => s
  | .hram k => s.withMem (s.mem.write k v)
  | .ie => s.withIrq { s.irq with ie := v }

/-! ## The CPU's accesses (R72, R73) -/

/-- `VramBlocked` (R80). -/
def State.vramBlocked (s : State) : Bool := s.ppu.mode == .pixelTransfer && s.ppu.lcdOn

/-- `DmaBlocksOam()` (R343). -/
def State.dmaBlocksOam (s : State) : Bool :=
  s.dma.state == .running || s.dma.shadow == .running

/-- `OamBlocked` (R84). -/
def State.oamBlocked (s : State) : Bool :=
  s.ppu.mode == .oamScan || s.ppu.mode == .pixelTransfer || s.dmaBlocksOam

/-- Whether the blocking condition of the address's row of R71 holds. -/
def State.blocked (s : State) (a : Word) : Bool :=
  match s.route a with
  | .vram _ => s.vramBlocked
  | .oam _ => s.oamBlocked
  | .rom | .cartRam | .wram _ | .gap | .io | .hram _ | .ie => false

/-- `BusRead(a)` (R72). -/
def State.busRead (s : State) (a : Word) : Byte :=
  if s.blocked a then 0xFF else s.rawRead .cpu a

/-- `BusWrite(a, v)` (R73). -/
def State.busWrite (s : State) (a : Word) (v : Byte) : State :=
  if s.blocked a then s else s.rawWrite a v

/-- The memory cell a CPU write to `a` changes, if it changes one: `none` for a blocked write and
for an address that is no memory. -/
def State.writtenCell (s : State) (a : Word) : Option Nat :=
  if s.blocked a then none
  else
    match s.route a with
    | .vram k | .wram k | .oam k | .hram k => some k
    | .rom | .cartRam | .gap | .io | .ie => none

end Sys2Proof.Machine
end

