-- ==== Sys2Proof/Machine/Engines.lean ====
section
/-! DEFINITION. The OAM DMA engine (spec/60_exceptions.md R340 to R344) and the HDMA engine (R345 to
R350). -/

namespace Sys2Proof.Machine

/-! ## OAM DMA -/

/-- The source address of the next byte, `{dmaPage, 0x00} + dmaIndex` (R342). -/
def OamDma.source (d : OamDma) : Word := joinBytes d.page 0x00 + BitVec.ofNat 16 d.index

/-- `CopyOne()` (R342). -/
def State.dmaCopyOne (s : State) : State :=
  if s.dma.index < 160 then
    (s.withMem (s.mem.write (oamCell s.dma.index) (s.rawRead .oamDma s.dma.source))).withDma
      { s.dma with index := s.dma.index + 1 }
  else s

/-- `DmaStep()` (R341). -/
def State.dmaStep (s : State) : State :=
  match s.dma.state with
  | .requested =>
    let s1 := if s.dma.shadow = .running then s.dmaCopyOne else s
    s1.withDma { s1.dma with state := .settingUp }
  | .settingUp => s.withDma { s.dma with state := .running, index := 0, shadow := .settingUp }
  | .running =>
    let s1 := s.dmaCopyOne
    let next : TransferState := if s1.dma.index = 160 then .stopped else .running
    s1.withDma { s1.dma with shadow := .running, state := next }
  | .stopped => s.withDma { s.dma with shadow := .stopped }

/-! ## HDMA -/

/-- One byte of `Copy2()` (R347). -/
def State.hdmaCopyOne (s : State) : State :=
  (s.withMem (s.mem.write (vramCell s.vramBank s.hdma.dst.toNat) (s.rawRead .hdma s.hdma.src))).withHdma
    { s.hdma with src := s.hdma.src + 1, dst := 0x8000 ||| ((s.hdma.dst + 1) &&& 0x1FFF) }

/-- `Copy2()` (R347). -/
def State.hdmaCopyTwo (s : State) : State :=
  let s1 := s.hdmaCopyOne.hdmaCopyOne
  s1.withHdma { s1.hdma with total := s1.hdma.total - 2 }

/-- The general-purpose part of the HDMA step (R346). -/
def State.hdmaGeneralStep (s : State) : State :=
  let s1 := s.hdmaCopyTwo
  if s1.hdma.total = 0 then s1.withHdma { s1.hdma with state := .stopped } else s1

/-- The copying part of the HBlank-gated step (R346). -/
def State.hdmaBlockStep (s : State) : State :=
  let s1 := s.hdmaCopyTwo
  let s2 := s1.withHdma { s1.hdma with block := s1.hdma.block - 2 }
  if s2.hdma.total = 0 then s2.withHdma { s2.hdma with state := .stopped }
  else if s2.hdma.block = 0 then s2.withHdma { s2.hdma with sub := .finishedLine }
  else s2

/-- Arms a 16-byte block at the start of an HBlank (R346). -/
def State.hdmaArm (s : State) : State :=
  if s.hdma.sub = .awaitingHBlank ∧ s.ppu.mode = .hblank then
    s.withHdma { s.hdma with sub := .copying, block := 16 }
  else s

/-- The HBlank-gated part of the HDMA step (R346). -/
def State.hdmaHBlankStep (s : State) : State :=
  let s1 := s.hdmaArm
  match s1.hdma.sub with
  | .copying => s1.hdmaBlockStep
  | .finishedLine =>
    if s1.ppu.mode = .hblank then s1 else s1.withHdma { s1.hdma with sub := .awaitingHBlank }
  | .awaitingHBlank => s1

/-- `HdmaStep()` (R346). -/
def State.hdmaStep (s : State) : State :=
  if s.params.enhanced then
    match s.hdma.state with
    | .requested => s.withHdma { s.hdma with state := .settingUp }
    | .settingUp => s.withHdma { s.hdma with state := .running, sub := .awaitingHBlank }
    | .running =>
      match s.hdma.mode with
      | .general => s.hdmaGeneralStep
      | .hblank => s.hdmaHBlankStep
    | .stopped => s
  else s

end Sys2Proof.Machine
end

