-- ==== Sys2Proof/Machine/Tick.lean ====
section
/-! DEFINITION. The scheduler (spec/60_exceptions.md R370): what happens around the CPU's part of a
tick. A state the CPU works on stands inside a tick, before the devices' part of it. -/

namespace Sys2Proof.Machine

/-- The call `Audio.step(4)` of a tick, where the tick makes it (D32, R374, log 16). -/
def State.audioStep (s : State) : State :=
  s.withCalls (if s.params.audioStepped then .audioStep s.elapsedCycles 4 :: s.calls else s.calls)

/-- The rest of a tick after the CPU's part (R370). -/
def State.endTick (s : State) : State :=
  let s1 := s.dmaStep.hdmaStep.ppuStep.timerStep.audioStep
  s1.withElapsed (s1.elapsedCycles + 4)

/-- Runs the ticks in which general-purpose HDMA freezes the CPU (R349, R370), at most `fuel`. -/
def State.thaw : Nat → State → State
  | 0, s => s
  | fuel + 1, s => if s.hdmaHaltsCpu then State.thaw fuel s.endTick.applyInputs else s

/-- Moves from the end of a tick into the next tick in which the CPU acts: the host's events that
are due, then the frozen ticks if there are any. A burst lasts `hdmaTotal / 2` ticks (R350). -/
def State.startTick (s : State) : State :=
  State.thaw (s.hdma.total / 2 + 1) s.applyInputs

/-- One CPU suspension point (R316): the rest of this tick, and into the CPU's next one. -/
def State.nextCycle (s : State) : State := s.endTick.startTick

end Sys2Proof.Machine
end

