-- ==== Sys2Proof/Machine/Ops.lean ====
section
/-! DEFINITION. The operations shared by the instructions: fetching, the stack, taking an interrupt
and returning from one (spec/00_scope.md R10, spec/60_exceptions.md R310 to R321). An operation that
takes more than one M-cycle crosses into the next with `State.nextCycle`. -/

namespace Sys2Proof.Machine

/-- What a step or a meaning answers. -/
abbrev Result := Host.Outcome State Fault Refusal

/-- The last M-cycle of an instruction or dispatch ends, and with it the CPU iteration (R316). -/
def finish (s : State) : Result := .next s.endTick

/-! ## The CPU's registers in the machine -/

/-- `x[i] <- v`. -/
def State.setReg (s : State) (r : Reg8) (v : Byte) : State := s.withCpu (s.cpu.setReg r v)

/-- `rp[p] <- w`. -/
def State.setPair (s : State) (p : Pair) (w : Word) : State := s.withCpu (s.cpu.setPair p w)

/-- `PC <- target`. -/
def State.jump (s : State) (target : Word) : State := s.withCpu { s.cpu with pc := target }

/-- Replaces the flags. -/
def State.setFlags (s : State) (f : Flags) : State := s.withCpu { s.cpu with flags := f }

/-- Replaces A and the flags. -/
def State.setAF (s : State) (res : Byte × Flags) : State := s.withCpu (s.cpu.setAF res)

/-! ## Fetching (R10, R318) -/

/-- `Fetch8()` within one M-cycle (R10). -/
def State.fetch8 (s : State) : Byte × State :=
  (s.busRead s.cpu.pc, s.withCpu { s.cpu with pc := s.cpu.pc + 1 })

/-- `OpcodeFetch()` (R318): an armed HALT-bug latch is consumed and PC stays. -/
def State.opcodeFetch (s : State) : Byte × State :=
  if s.cpu.haltBug then (s.busRead s.cpu.pc, s.withCpu { s.cpu with haltBug := false })
  else s.fetch8

/-- The `n` bytes after the opcode, one M-cycle each (R120, R13). -/
def State.fetchOperands : Nat → State → List Byte × State
  | 0, s => ([], s)
  | n + 1, s =>
    let (v, s1) := s.nextCycle.fetch8
    let (vs, s2) := State.fetchOperands n s1
    (v :: vs, s2)

/-- All bytes of the next instruction, and the state in the M-cycle of the last of them (R13, R120;
log 2). -/
def State.fetchInstr (s : State) : List Byte × State :=
  let (op, s1) := s.opcodeFetch
  let (vs, s2) := s1.fetchOperands (operandCount op)
  (op :: vs, s2)

/-! ## The stack (R10, R26) -/

/-- Half of `Push16`: `SP <- SP - 1; MemWrite(SP, 1, v)`, one M-cycle. -/
def State.pushByte (s : State) (v : Byte) : State :=
  let sp := s.cpu.sp - 1
  (s.withCpu { s.cpu with sp := sp }).busWrite sp v

/-- `Push16(v)` in this M-cycle and the next, high byte first (R10). -/
def State.push16 (s : State) (v : Word) : State :=
  (s.pushByte (highByte v)).nextCycle.pushByte (lowByte v)

/-- Half of `Pop16`: the byte at SP, then SP + 1, one M-cycle. -/
def State.popByte (s : State) : Byte × State :=
  (s.busRead s.cpu.sp, s.withCpu { s.cpu with sp := s.cpu.sp + 1 })

/-- `Pop16()` in this M-cycle and the next, low byte first (R10). -/
def State.pop16 (s : State) : Word × State :=
  let (lo, s1) := s.popByte
  let (hi, s2) := s1.nextCycle.popByte
  (joinBytes hi lo, s2)

/-! ## Taking an interrupt, and returning (R310 to R321) -/

/-- The state after the five M-cycles of `Dispatch(i)` (R314) but for the devices' part of the last:
PC is on the stack, IME and IF[i] are 0, PC is the service address. -/
def State.takeInterrupt (s : State) (i : Fin 5) : State :=
  let s3 := s.nextCycle.nextCycle
  let s5 := (s3.push16 s3.cpu.pc).nextCycle
  (s5.withCpu { s5.cpu with ime := false, pc := serviceAddress i }).clear i

/-- `Dispatch(i)` (R314). -/
def dispatch (s : State) (i : Fin 5) : Result := finish (s.takeInterrupt i)

/-- The common part of RET, RET cc and RETI (R278 to R280): pop PC in this M-cycle and the next, and
load it in the one after. -/
def State.popPC (s : State) : State :=
  let (target, s2) := s.pop16
  s2.nextCycle.jump target

/-- The return from an interrupt (R280, R321): PC from the stack, IME set at once. -/
def State.returnFromInterrupt (s : State) : State :=
  let s1 := s.popPC
  s1.withCpu { s1.cpu with ime := true }

/-- The counter part of the poll (R310). -/
def Cpu.countEi (r : Cpu) : Cpu :=
  if r.eiCounter > 0 then
    { r with eiCounter := r.eiCounter - 1, ime := r.ime || r.eiCounter - 1 == 0 }
  else r

/-- The source the poll finds (R310, R311). -/
def State.polledSource (s : State) : Option (Fin 5) :=
  if s.hdmaHaltsCpu then none else lowestSource s.irq.pending

/-- The wake-up part of the poll (R310, R322): HALTED is cleared; leaving STOPPED costs one idle
M-cycle. -/
def State.wake (s : State) : State :=
  let s1 := s.withCpu { s.cpu with halted := false }
  if s.cpu.stopped then (s1.withCpu { s1.cpu with stopped := false }).nextCycle else s1

end Sys2Proof.Machine
end

