-- ==== Sys2Proof/Machine/Alu16.lean ====
section
/-! DEFINITION. 16-bit arithmetic (spec/43_alu16.md). -/

namespace Sys2Proof.Machine

/-- `ADD HL,rr` (R220), in its idle M-cycle. -/
def addToHL (p : Pair) (s : State) : Result :=
  let r := addHL s.cpu.hl (s.cpu.pair p) s.cpu.flags
  finish ((s.nextCycle.setPair .hl r.1).setFlags r.2)

/-- `INC rr` and `DEC rr` (R221, R222), in the idle M-cycle; no flag changes. -/
def stepPair (p : Pair) (step : Word) (s : State) : Result :=
  finish (s.nextCycle.setPair p (s.cpu.pair p + step))

/-- `ADD SP,e` (R223): two idle M-cycles; SP and the flags are written in the second. -/
def addToSP (e : Byte) (s : State) : Result :=
  let r := addSPOffset s.cpu.sp e
  finish ((s.nextCycle.nextCycle.setPair .sp r.1).setFlags r.2)

/-! `ADD HL,rr` (R220) -/

def execAddHLBC (s : State) : Result := addToHL .bc s
def execAddHLDE (s : State) : Result := addToHL .de s
def execAddHLHL (s : State) : Result := addToHL .hl s
def execAddHLSP (s : State) : Result := addToHL .sp s

/-! `INC rr` (R221) -/

def execIncBC (s : State) : Result := stepPair .bc 1 s
def execIncDE (s : State) : Result := stepPair .de 1 s
def execIncHL (s : State) : Result := stepPair .hl 1 s
def execIncSP (s : State) : Result := stepPair .sp 1 s

/-! `DEC rr` (R222) -/

def execDecBC (s : State) : Result := stepPair .bc (-1) s
def execDecDE (s : State) : Result := stepPair .de (-1) s
def execDecHL (s : State) : Result := stepPair .hl (-1) s
def execDecSP (s : State) : Result := stepPair .sp (-1) s

/-! `ADD SP,e` (R223) -/

def execAddSPOff (e : Byte) (s : State) : Result := addToSP e s

end Sys2Proof.Machine
end

