-- ==== Sys2Proof/Machine/Control.lean ====
section
/-! DEFINITION. Jumps, calls, returns and restarts (spec/45_control.md). No flag changes. A condition is
tested on the flags as they stand when the instruction starts (R270). -/

namespace Sys2Proof.Machine

/-- `JP nn` (R271), and `JP cc,nn` taken: an idle M-cycle. -/
def jumpTo (nn : Word) (s : State) : Result := finish (s.nextCycle.jump nn)

/-- `JP cc,nn` (R272). -/
def jumpIf (cc : Cond) (nn : Word) (s : State) : Result :=
  if s.cpu.flags.cond cc then jumpTo nn s else finish s

/-- `JR e` (R274): relative to the address after the instruction. -/
def jumpRelative (e : Byte) (s : State) : Result := jumpTo (s.cpu.pc + e.signExtend 16) s

/-- `JR cc,e` (R275). -/
def jumpRelativeIf (cc : Cond) (e : Byte) (s : State) : Result :=
  if s.cpu.flags.cond cc then jumpRelative e s else finish s

/-- An idle M-cycle, the push of PC, and the jump: `CALL nn` (R276) and `RST t` (R281). -/
def callTo (nn : Word) (s : State) : Result :=
  finish ((s.nextCycle.nextCycle.push16 s.cpu.pc).jump nn)

/-- `CALL cc,nn` (R277). -/
def callIf (cc : Cond) (nn : Word) (s : State) : Result :=
  if s.cpu.flags.cond cc then callTo nn s else finish s

/-- `RET cc` (R279): the condition is evaluated in an idle M-cycle. -/
def returnIf (cc : Cond) (s : State) : Result :=
  let s2 := s.nextCycle
  if s.cpu.flags.cond cc then finish s2.nextCycle.popPC else finish s2

/-- `RST t` (R281). -/
def restart (t : RstTarget) (s : State) : Result := callTo (rstAddress t) s

/-! `JP nn` (R271) -/

def execJpImm16 (nn : Word) (s : State) : Result := jumpTo nn s

/-! `JP cc,nn` (R272) -/

def execJpNZImm16 (nn : Word) (s : State) : Result := jumpIf .nz nn s
def execJpZImm16 (nn : Word) (s : State) : Result := jumpIf .z nn s
def execJpNCImm16 (nn : Word) (s : State) : Result := jumpIf .nc nn s
def execJpCImm16 (nn : Word) (s : State) : Result := jumpIf .c nn s

/-! `JP HL` (R273) -/

def execJpHL (s : State) : Result := finish (s.jump s.cpu.hl)

/-! `JR e` (R274) -/

def execJrOff (e : Byte) (s : State) : Result := jumpRelative e s

/-! `JR cc,e` (R275) -/

def execJrNZOff (e : Byte) (s : State) : Result := jumpRelativeIf .nz e s
def execJrZOff (e : Byte) (s : State) : Result := jumpRelativeIf .z e s
def execJrNCOff (e : Byte) (s : State) : Result := jumpRelativeIf .nc e s
def execJrCOff (e : Byte) (s : State) : Result := jumpRelativeIf .c e s

/-! `CALL nn` (R276) -/

def execCallImm16 (nn : Word) (s : State) : Result := callTo nn s

/-! `CALL cc,nn` (R277) -/

def execCallNZImm16 (nn : Word) (s : State) : Result := callIf .nz nn s
def execCallZImm16 (nn : Word) (s : State) : Result := callIf .z nn s
def execCallNCImm16 (nn : Word) (s : State) : Result := callIf .nc nn s
def execCallCImm16 (nn : Word) (s : State) : Result := callIf .c nn s

/-! `RET` (R278) -/

def execRet (s : State) : Result := finish s.nextCycle.popPC

/-! `RET cc` (R279) -/

def execRetNZ (s : State) : Result := returnIf .nz s
def execRetZ (s : State) : Result := returnIf .z s
def execRetNC (s : State) : Result := returnIf .nc s
def execRetC (s : State) : Result := returnIf .c s

/-! `RETI` (R280) -/

def execReti (s : State) : Result := finish s.nextCycle.returnFromInterrupt

/-! `RST t` (R281) -/

def execRst00H (s : State) : Result := restart .t00 s
def execRst08H (s : State) : Result := restart .t08 s
def execRst10H (s : State) : Result := restart .t10 s
def execRst18H (s : State) : Result := restart .t18 s
def execRst20H (s : State) : Result := restart .t20 s
def execRst28H (s : State) : Result := restart .t28 s
def execRst30H (s : State) : Result := restart .t30 s
def execRst38H (s : State) : Result := restart .t38 s

end Sys2Proof.Machine
end

