-- ==== Sys2Proof/Machine/Load16.lean ====
section
/-! DEFINITION. The 16-bit loads and the stack instructions (spec/41_load16.md). -/

namespace Sys2Proof.Machine

/-- `LD rr,nn` (R170), in the M-cycle of the high byte's fetch. -/
def loadPairImm (p : Pair) (nn : Word) (s : State) : Result := finish (s.setPair p nn)

/-- `LD (nn),SP` (R171): two byte stores, low byte first. -/
def storeSP (nn : Word) (s : State) : Result :=
  let s4 := s.nextCycle.busWrite nn (lowByte s.cpu.sp)
  finish (s4.nextCycle.busWrite (nn + 1) (highByte s.cpu.sp))

/-- `PUSH rr` (R173): an idle M-cycle, then the two stores. -/
def pushPair (p : StackPair) (s : State) : Result :=
  finish (s.nextCycle.nextCycle.push16 (s.cpu.stackPair p))

/-- `POP rr` (R174). -/
def popPair (p : StackPair) (s : State) : Result :=
  let (w, s3) := s.nextCycle.pop16
  finish (s3.withCpu (s3.cpu.setStackPair p w))

/-- `LD HL,SP+e` (R175): an idle M-cycle, in which HL and the flags are written. -/
def loadHLOffset (e : Byte) (s : State) : Result :=
  let r := addSPOffset s.cpu.sp e
  finish ((s.nextCycle.setPair .hl r.1).setFlags r.2)

/-! `LD rr,nn` (R170) -/

def execLdBCImm16 (nn : Word) (s : State) : Result := loadPairImm .bc nn s
def execLdDEImm16 (nn : Word) (s : State) : Result := loadPairImm .de nn s
def execLdHLImm16 (nn : Word) (s : State) : Result := loadPairImm .hl nn s
def execLdSPImm16 (nn : Word) (s : State) : Result := loadPairImm .sp nn s

/-! `LD (nn),SP` (R171) -/

def execLdAtNnSP (nn : Word) (s : State) : Result := storeSP nn s

/-! `LD SP,HL` (R172) -/

def execLdSPHL (s : State) : Result := finish (s.nextCycle.setPair .sp s.cpu.hl)

/-! `PUSH rr` (R173) -/

def execPushBC (s : State) : Result := pushPair .bc s
def execPushDE (s : State) : Result := pushPair .de s
def execPushHL (s : State) : Result := pushPair .hl s
def execPushAF (s : State) : Result := pushPair .af s

/-! `POP rr` (R174) -/

def execPopBC (s : State) : Result := popPair .bc s
def execPopDE (s : State) : Result := popPair .de s
def execPopHL (s : State) : Result := popPair .hl s
def execPopAF (s : State) : Result := popPair .af s

/-! `LD HL,SP+e` (R175) -/

def execLdHLSPOff (e : Byte) (s : State) : Result := loadHLOffset e s

end Sys2Proof.Machine
end

