-- ==== Sys2Proof/Machine/Load8.lean ====
section
/-! DEFINITION. The 8-bit loads and stores (spec/40_load8.md). No instruction here reads or writes a
flag. A meaning starts in the M-cycle of its last fetched byte, PC past the instruction. -/

namespace Sys2Proof.Machine

/-- Register to register, in the M-cycle of the fetch (R140). -/
def copyReg (dst src : Reg8) (s : State) : Result := finish (s.setReg dst (s.cpu.reg src))

/-- Immediate to register, in the M-cycle of the immediate's fetch (R141). -/
def loadImm (dst : Reg8) (n : Byte) (s : State) : Result := finish (s.setReg dst n)

/-- Memory to register: one M-cycle that reads (R142, R145, R146, R149, R151, R153). -/
def loadFrom (dst : Reg8) (addr : Word) (s : State) : Result :=
  let s1 := s.nextCycle
  finish (s1.setReg dst (s1.busRead addr))

/-- A byte to memory: one M-cycle that writes (R143, R144, R147, R148, R150, R152, R154). -/
def storeTo (addr : Word) (v : Byte) (s : State) : Result :=
  finish (s.nextCycle.busWrite addr v)

/-- A from memory at HL, then HL stepped, in one M-cycle (R155, R157). -/
def loadStepping (step : Word) (s : State) : Result :=
  let s1 := s.nextCycle
  let s2 := s1.setReg .a (s1.busRead s.cpu.hl)
  finish (s2.setPair .hl (s.cpu.hl + step))

/-- A to memory at HL, then HL stepped, in one M-cycle, dropped store or not (R156, R158). -/
def storeStepping (step : Word) (s : State) : Result :=
  let s2 := s.nextCycle.busWrite s.cpu.hl s.cpu.a
  finish (s2.setPair .hl (s.cpu.hl + step))

/-! `LD r,r'` (R140) -/

def execLdBB (s : State) : Result := copyReg .b .b s
def execLdBC (s : State) : Result := copyReg .b .c s
def execLdBD (s : State) : Result := copyReg .b .d s
def execLdBE (s : State) : Result := copyReg .b .e s
def execLdBH (s : State) : Result := copyReg .b .h s
def execLdBL (s : State) : Result := copyReg .b .l s
def execLdBA (s : State) : Result := copyReg .b .a s
def execLdCB (s : State) : Result := copyReg .c .b s
def execLdCC (s : State) : Result := copyReg .c .c s
def execLdCD (s : State) : Result := copyReg .c .d s
def execLdCE (s : State) : Result := copyReg .c .e s
def execLdCH (s : State) : Result := copyReg .c .h s
def execLdCL (s : State) : Result := copyReg .c .l s
def execLdCA (s : State) : Result := copyReg .c .a s
def execLdDB (s : State) : Result := copyReg .d .b s
def execLdDC (s : State) : Result := copyReg .d .c s
def execLdDD (s : State) : Result := copyReg .d .d s
def execLdDE (s : State) : Result := copyReg .d .e s
def execLdDH (s : State) : Result := copyReg .d .h s
def execLdDL (s : State) : Result := copyReg .d .l s
def execLdDA (s : State) : Result := copyReg .d .a s
def execLdEB (s : State) : Result := copyReg .e .b s
def execLdEC (s : State) : Result := copyReg .e .c s
def execLdED (s : State) : Result := copyReg .e .d s
def execLdEE (s : State) : Result := copyReg .e .e s
def execLdEH (s : State) : Result := copyReg .e .h s
def execLdEL (s : State) : Result := copyReg .e .l s
def execLdEA (s : State) : Result := copyReg .e .a s
def execLdHB (s : State) : Result := copyReg .h .b s
def execLdHC (s : State) : Result := copyReg .h .c s
def execLdHD (s : State) : Result := copyReg .h .d s
def execLdHE (s : State) : Result := copyReg .h .e s
def execLdHH (s : State) : Result := copyReg .h .h s
def execLdHL (s : State) : Result := copyReg .h .l s
def execLdHA (s : State) : Result := copyReg .h .a s
def execLdLB (s : State) : Result := copyReg .l .b s
def execLdLC (s : State) : Result := copyReg .l .c s
def execLdLD (s : State) : Result := copyReg .l .d s
def execLdLE (s : State) : Result := copyReg .l .e s
def execLdLH (s : State) : Result := copyReg .l .h s
def execLdLL (s : State) : Result := copyReg .l .l s
def execLdLA (s : State) : Result := copyReg .l .a s
def execLdAB (s : State) : Result := copyReg .a .b s
def execLdAC (s : State) : Result := copyReg .a .c s
def execLdAD (s : State) : Result := copyReg .a .d s
def execLdAE (s : State) : Result := copyReg .a .e s
def execLdAH (s : State) : Result := copyReg .a .h s
def execLdAL (s : State) : Result := copyReg .a .l s
def execLdAA (s : State) : Result := copyReg .a .a s

/-! `LD r,n` (R141) -/

def execLdBImm (n : Byte) (s : State) : Result := loadImm .b n s
def execLdCImm (n : Byte) (s : State) : Result := loadImm .c n s
def execLdDImm (n : Byte) (s : State) : Result := loadImm .d n s
def execLdEImm (n : Byte) (s : State) : Result := loadImm .e n s
def execLdHImm (n : Byte) (s : State) : Result := loadImm .h n s
def execLdLImm (n : Byte) (s : State) : Result := loadImm .l n s
def execLdAImm (n : Byte) (s : State) : Result := loadImm .a n s

/-! `LD r,(HL)` (R142) -/

def execLdBAtHL (s : State) : Result := loadFrom .b s.cpu.hl s
def execLdCAtHL (s : State) : Result := loadFrom .c s.cpu.hl s
def execLdDAtHL (s : State) : Result := loadFrom .d s.cpu.hl s
def execLdEAtHL (s : State) : Result := loadFrom .e s.cpu.hl s
def execLdHAtHL (s : State) : Result := loadFrom .h s.cpu.hl s
def execLdLAtHL (s : State) : Result := loadFrom .l s.cpu.hl s
def execLdAAtHL (s : State) : Result := loadFrom .a s.cpu.hl s

/-! `LD (HL),r` (R143) -/

def execLdAtHLB (s : State) : Result := storeTo s.cpu.hl (s.cpu.reg .b) s
def execLdAtHLC (s : State) : Result := storeTo s.cpu.hl (s.cpu.reg .c) s
def execLdAtHLD (s : State) : Result := storeTo s.cpu.hl (s.cpu.reg .d) s
def execLdAtHLE (s : State) : Result := storeTo s.cpu.hl (s.cpu.reg .e) s
def execLdAtHLH (s : State) : Result := storeTo s.cpu.hl (s.cpu.reg .h) s
def execLdAtHLL (s : State) : Result := storeTo s.cpu.hl (s.cpu.reg .l) s
def execLdAtHLA (s : State) : Result := storeTo s.cpu.hl (s.cpu.reg .a) s

/-! `LD (HL),n` (R144) -/

def execLdAtHLImm (n : Byte) (s : State) : Result := storeTo s.cpu.hl n s

/-! `LD A,(BC)` (R145) -/

def execLdAAtBC (s : State) : Result := loadFrom .a s.cpu.bc s

/-! `LD A,(DE)` (R146) -/

def execLdAAtDE (s : State) : Result := loadFrom .a s.cpu.de s

/-! `LD (BC),A` (R147) -/

def execLdAtBCA (s : State) : Result := storeTo s.cpu.bc s.cpu.a s

/-! `LD (DE),A` (R148) -/

def execLdAtDEA (s : State) : Result := storeTo s.cpu.de s.cpu.a s

/-! `LD A,(nn)` (R149) -/

def execLdAAtNn (nn : Word) (s : State) : Result := loadFrom .a nn s

/-! `LD (nn),A` (R150) -/

def execLdAtNnA (nn : Word) (s : State) : Result := storeTo nn s.cpu.a s

/-! `LDH A,(C)` (R151) -/

def execLdhAAtC (s : State) : Result := loadFrom .a (highPage s.cpu.c) s

/-! `LDH (C),A` (R152) -/

def execLdhAtCA (s : State) : Result := storeTo (highPage s.cpu.c) s.cpu.a s

/-! `LDH A,(n)` (R153) -/

def execLdhAAtN (n : Byte) (s : State) : Result := loadFrom .a (highPage n) s

/-! `LDH (n),A` (R154) -/

def execLdhAtNA (n : Byte) (s : State) : Result := storeTo (highPage n) s.cpu.a s

/-! `LD A,(HL-)` (R155) -/

def execLdAAtHLDec (s : State) : Result := loadStepping (-1) s

/-! `LD (HL-),A` (R156) -/

def execLdAtHLDecA (s : State) : Result := storeStepping (-1) s

/-! `LD A,(HL+)` (R157) -/

def execLdAAtHLInc (s : State) : Result := loadStepping 1 s

/-! `LD (HL+),A` (R158) -/

def execLdAtHLIncA (s : State) : Result := storeStepping 1 s

end Sys2Proof.Machine
end

