-- ==== Sys2Proof/Machine/Alu8.lean ====
section
/-! DEFINITION. 8-bit arithmetic and logic (spec/42_alu8.md). -/

namespace Sys2Proof.Machine

/-- `op A,v` on the state of the M-cycle that has `v` (R180). -/
def State.aluA (s : State) (op : AluOp) (v : Byte) : State :=
  s.setAF (alu op s.cpu.a v s.cpu.flags)

/-- `op A,r` (R180). -/
def aluWithReg (op : AluOp) (r : Reg8) (s : State) : Result := finish (s.aluA op (s.cpu.reg r))

/-- `op A,(HL)` (R180): one M-cycle that reads. -/
def aluWithMem (op : AluOp) (s : State) : Result :=
  let s1 := s.nextCycle
  finish (s1.aluA op (s1.busRead s.cpu.hl))

/-- `op A,n` (R180). -/
def aluWithImm (op : AluOp) (n : Byte) (s : State) : Result := finish (s.aluA op n)

/-- INC and DEC of a register (R205, R207). -/
def updateReg (f : Byte → Flags → Byte × Flags) (r : Reg8) (s : State) : Result :=
  let res := f (s.cpu.reg r) s.cpu.flags
  finish ((s.setReg r res.1).setFlags res.2)

/-- A read-modify-write of the byte at HL: this M-cycle reads, the next writes and sets the flags
(R206, R208, R230). The two are not atomic (R412). -/
def modifyMem (f : Byte → Flags → Byte × Flags) (s : State) : Result :=
  let v := s.busRead s.cpu.hl
  let s1 := s.nextCycle
  let res := f v s1.cpu.flags
  finish ((s1.busWrite s1.cpu.hl res.1).setFlags res.2)

/-! `ADD A,r` (R181) -/

def execAddAB (s : State) : Result := aluWithReg .add .b s
def execAddAC (s : State) : Result := aluWithReg .add .c s
def execAddAD (s : State) : Result := aluWithReg .add .d s
def execAddAE (s : State) : Result := aluWithReg .add .e s
def execAddAH (s : State) : Result := aluWithReg .add .h s
def execAddAL (s : State) : Result := aluWithReg .add .l s
def execAddAA (s : State) : Result := aluWithReg .add .a s

/-! `ADD A,(HL)` (R182) -/

def execAddAAtHL (s : State) : Result := aluWithMem .add s

/-! `ADD A,n` (R183) -/

def execAddAImm (n : Byte) (s : State) : Result := aluWithImm .add n s

/-! `ADC A,r` (R184) -/

def execAdcAB (s : State) : Result := aluWithReg .adc .b s
def execAdcAC (s : State) : Result := aluWithReg .adc .c s
def execAdcAD (s : State) : Result := aluWithReg .adc .d s
def execAdcAE (s : State) : Result := aluWithReg .adc .e s
def execAdcAH (s : State) : Result := aluWithReg .adc .h s
def execAdcAL (s : State) : Result := aluWithReg .adc .l s
def execAdcAA (s : State) : Result := aluWithReg .adc .a s

/-! `ADC A,(HL)` (R185) -/

def execAdcAAtHL (s : State) : Result := aluWithMem .adc s

/-! `ADC A,n` (R186) -/

def execAdcAImm (n : Byte) (s : State) : Result := aluWithImm .adc n s

/-! `SUB A,r` (R187) -/

def execSubAB (s : State) : Result := aluWithReg .sub .b s
def execSubAC (s : State) : Result := aluWithReg .sub .c s
def execSubAD (s : State) : Result := aluWithReg .sub .d s
def execSubAE (s : State) : Result := aluWithReg .sub .e s
def execSubAH (s : State) : Result := aluWithReg .sub .h s
def execSubAL (s : State) : Result := aluWithReg .sub .l s
def execSubAA (s : State) : Result := aluWithReg .sub .a s

/-! `SUB A,(HL)` (R188) -/

def execSubAAtHL (s : State) : Result := aluWithMem .sub s

/-! `SUB A,n` (R189) -/

def execSubAImm (n : Byte) (s : State) : Result := aluWithImm .sub n s

/-! `SBC A,r` (R190) -/

def execSbcAB (s : State) : Result := aluWithReg .sbc .b s
def execSbcAC (s : State) : Result := aluWithReg .sbc .c s
def execSbcAD (s : State) : Result := aluWithReg .sbc .d s
def execSbcAE (s : State) : Result := aluWithReg .sbc .e s
def execSbcAH (s : State) : Result := aluWithReg .sbc .h s
def execSbcAL (s : State) : Result := aluWithReg .sbc .l s
def execSbcAA (s : State) : Result := aluWithReg .sbc .a s

/-! `SBC A,(HL)` (R191) -/

def execSbcAAtHL (s : State) : Result := aluWithMem .sbc s

/-! `SBC A,n` (R192) -/

def execSbcAImm (n : Byte) (s : State) : Result := aluWithImm .sbc n s

/-! `AND A,r` (R193) -/

def execAndAB (s : State) : Result := aluWithReg .and .b s
def execAndAC (s : State) : Result := aluWithReg .and .c s
def execAndAD (s : State) : Result := aluWithReg .and .d s
def execAndAE (s : State) : Result := aluWithReg .and .e s
def execAndAH (s : State) : Result := aluWithReg .and .h s
def execAndAL (s : State) : Result := aluWithReg .and .l s
def execAndAA (s : State) : Result := aluWithReg .and .a s

/-! `AND A,(HL)` (R194) -/

def execAndAAtHL (s : State) : Result := aluWithMem .and s

/-! `AND A,n` (R195) -/

def execAndAImm (n : Byte) (s : State) : Result := aluWithImm .and n s

/-! `XOR A,r` (R196) -/

def execXorAB (s : State) : Result := aluWithReg .xor .b s
def execXorAC (s : State) : Result := aluWithReg .xor .c s
def execXorAD (s : State) : Result := aluWithReg .xor .d s
def execXorAE (s : State) : Result := aluWithReg .xor .e s
def execXorAH (s : State) : Result := aluWithReg .xor .h s
def execXorAL (s : State) : Result := aluWithReg .xor .l s
def execXorAA (s : State) : Result := aluWithReg .xor .a s

/-! `XOR A,(HL)` (R197) -/

def execXorAAtHL (s : State) : Result := aluWithMem .xor s

/-! `XOR A,n` (R198) -/

def execXorAImm (n : Byte) (s : State) : Result := aluWithImm .xor n s

/-! `OR A,r` (R199) -/

def execOrAB (s : State) : Result := aluWithReg .or .b s
def execOrAC (s : State) : Result := aluWithReg .or .c s
def execOrAD (s : State) : Result := aluWithReg .or .d s
def execOrAE (s : State) : Result := aluWithReg .or .e s
def execOrAH (s : State) : Result := aluWithReg .or .h s
def execOrAL (s : State) : Result := aluWithReg .or .l s
def execOrAA (s : State) : Result := aluWithReg .or .a s

/-! `OR A,(HL)` (R200) -/

def execOrAAtHL (s : State) : Result := aluWithMem .or s

/-! `OR A,n` (R201) -/

def execOrAImm (n : Byte) (s : State) : Result := aluWithImm .or n s

/-! `CP A,r` (R202) -/

def execCpAB (s : State) : Result := aluWithReg .cp .b s
def execCpAC (s : State) : Result := aluWithReg .cp .c s
def execCpAD (s : State) : Result := aluWithReg .cp .d s
def execCpAE (s : State) : Result := aluWithReg .cp .e s
def execCpAH (s : State) : Result := aluWithReg .cp .h s
def execCpAL (s : State) : Result := aluWithReg .cp .l s
def execCpAA (s : State) : Result := aluWithReg .cp .a s

/-! `CP A,(HL)` (R203) -/

def execCpAAtHL (s : State) : Result := aluWithMem .cp s

/-! `CP A,n` (R204) -/

def execCpAImm (n : Byte) (s : State) : Result := aluWithImm .cp n s

/-! `INC r` (R205) -/

def execIncB (s : State) : Result := updateReg inc8 .b s
def execIncC (s : State) : Result := updateReg inc8 .c s
def execIncD (s : State) : Result := updateReg inc8 .d s
def execIncE (s : State) : Result := updateReg inc8 .e s
def execIncH (s : State) : Result := updateReg inc8 .h s
def execIncL (s : State) : Result := updateReg inc8 .l s
def execIncA (s : State) : Result := updateReg inc8 .a s

/-! `INC (HL)` (R206) -/

def execIncAtHL (s : State) : Result := modifyMem inc8 s.nextCycle

/-! `DEC r` (R207) -/

def execDecB (s : State) : Result := updateReg dec8 .b s
def execDecC (s : State) : Result := updateReg dec8 .c s
def execDecD (s : State) : Result := updateReg dec8 .d s
def execDecE (s : State) : Result := updateReg dec8 .e s
def execDecH (s : State) : Result := updateReg dec8 .h s
def execDecL (s : State) : Result := updateReg dec8 .l s
def execDecA (s : State) : Result := updateReg dec8 .a s

/-! `DEC (HL)` (R208) -/

def execDecAtHL (s : State) : Result := modifyMem dec8 s.nextCycle

/-! `DAA` (R209) -/

def execDaa (s : State) : Result := finish (s.setAF (daa s.cpu.a s.cpu.flags))

/-! `CPL` (R210) -/

def execCpl (s : State) : Result := finish (s.setAF (cpl s.cpu.a s.cpu.flags))

/-! `SCF` (R211) -/

def execScf (s : State) : Result := finish (s.setFlags (scf s.cpu.flags))

/-! `CCF` (R212) -/

def execCcf (s : State) : Result := finish (s.setFlags (ccf s.cpu.flags))

end Sys2Proof.Machine
end

