-- ==== Sys2Proof/Machine/Rotate.lean ====
section
/-! DEFINITION. Rotates, shifts and SWAP (spec/44_rotate_shift_bit.md R230 to R250). The prefixed forms
start in the M-cycle of their second byte. -/

namespace Sys2Proof.Machine

/-- `rot r` (R230). -/
def rotateReg (op : RotOp) (r : Reg8) (s : State) : Result := updateReg (rotateCB op) r s

/-- `rot (HL)` (R230): M3 reads, M4 writes. -/
def rotateMem (op : RotOp) (s : State) : Result := modifyMem (rotateCB op) s.nextCycle

/-! `RLCA` (R231) -/

def execRlca (s : State) : Result := finish (s.setAF (rotateA .rlc s.cpu.a s.cpu.flags))

/-! `RRCA` (R232) -/

def execRrca (s : State) : Result := finish (s.setAF (rotateA .rrc s.cpu.a s.cpu.flags))

/-! `RLA` (R233) -/

def execRla (s : State) : Result := finish (s.setAF (rotateA .rl s.cpu.a s.cpu.flags))

/-! `RRA` (R234) -/

def execRra (s : State) : Result := finish (s.setAF (rotateA .rr s.cpu.a s.cpu.flags))

/-! `RLC r` (R235) -/

def execRlcB (s : State) : Result := rotateReg .rlc .b s
def execRlcC (s : State) : Result := rotateReg .rlc .c s
def execRlcD (s : State) : Result := rotateReg .rlc .d s
def execRlcE (s : State) : Result := rotateReg .rlc .e s
def execRlcH (s : State) : Result := rotateReg .rlc .h s
def execRlcL (s : State) : Result := rotateReg .rlc .l s
def execRlcA (s : State) : Result := rotateReg .rlc .a s

/-! `RLC (HL)` (R236) -/

def execRlcAtHL (s : State) : Result := rotateMem .rlc s

/-! `RRC r` (R237) -/

def execRrcB (s : State) : Result := rotateReg .rrc .b s
def execRrcC (s : State) : Result := rotateReg .rrc .c s
def execRrcD (s : State) : Result := rotateReg .rrc .d s
def execRrcE (s : State) : Result := rotateReg .rrc .e s
def execRrcH (s : State) : Result := rotateReg .rrc .h s
def execRrcL (s : State) : Result := rotateReg .rrc .l s
def execRrcA (s : State) : Result := rotateReg .rrc .a s

/-! `RRC (HL)` (R238) -/

def execRrcAtHL (s : State) : Result := rotateMem .rrc s

/-! `RL r` (R239) -/

def execRlB (s : State) : Result := rotateReg .rl .b s
def execRlC (s : State) : Result := rotateReg .rl .c s
def execRlD (s : State) : Result := rotateReg .rl .d s
def execRlE (s : State) : Result := rotateReg .rl .e s
def execRlH (s : State) : Result := rotateReg .rl .h s
def execRlL (s : State) : Result := rotateReg .rl .l s
def execRlA (s : State) : Result := rotateReg .rl .a s

/-! `RL (HL)` (R240) -/

def execRlAtHL (s : State) : Result := rotateMem .rl s

/-! `RR r` (R241) -/

def execRrB (s : State) : Result := rotateReg .rr .b s
def execRrC (s : State) : Result := rotateReg .rr .c s
def execRrD (s : State) : Result := rotateReg .rr .d s
def execRrE (s : State) : Result := rotateReg .rr .e s
def execRrH (s : State) : Result := rotateReg .rr .h s
def execRrL (s : State) : Result := rotateReg .rr .l s
def execRrA (s : State) : Result := rotateReg .rr .a s

/-! `RR (HL)` (R242) -/

def execRrAtHL (s : State) : Result := rotateMem .rr s

/-! `SLA r` (R243) -/

def execSlaB (s : State) : Result := rotateReg .sla .b s
def execSlaC (s : State) : Result := rotateReg .sla .c s
def execSlaD (s : State) : Result := rotateReg .sla .d s
def execSlaE (s : State) : Result := rotateReg .sla .e s
def execSlaH (s : State) : Result := rotateReg .sla .h s
def execSlaL (s : State) : Result := rotateReg .sla .l s
def execSlaA (s : State) : Result := rotateReg .sla .a s

/-! `SLA (HL)` (R244) -/

def execSlaAtHL (s : State) : Result := rotateMem .sla s

/-! `SRA r` (R245) -/

def execSraB (s : State) : Result := rotateReg .sra .b s
def execSraC (s : State) : Result := rotateReg .sra .c s
def execSraD (s : State) : Result := rotateReg .sra .d s
def execSraE (s : State) : Result := rotateReg .sra .e s
def execSraH (s : State) : Result := rotateReg .sra .h s
def execSraL (s : State) : Result := rotateReg .sra .l s
def execSraA (s : State) : Result := rotateReg .sra .a s

/-! `SRA (HL)` (R246) -/

def execSraAtHL (s : State) : Result := rotateMem .sra s

/-! `SWAP r` (R247) -/

def execSwapB (s : State) : Result := rotateReg .swap .b s
def execSwapC (s : State) : Result := rotateReg .swap .c s
def execSwapD (s : State) : Result := rotateReg .swap .d s
def execSwapE (s : State) : Result := rotateReg .swap .e s
def execSwapH (s : State) : Result := rotateReg .swap .h s
def execSwapL (s : State) : Result := rotateReg .swap .l s
def execSwapA (s : State) : Result := rotateReg .swap .a s

/-! `SWAP (HL)` (R248) -/

def execSwapAtHL (s : State) : Result := rotateMem .swap s

/-! `SRL r` (R249) -/

def execSrlB (s : State) : Result := rotateReg .srl .b s
def execSrlC (s : State) : Result := rotateReg .srl .c s
def execSrlD (s : State) : Result := rotateReg .srl .d s
def execSrlE (s : State) : Result := rotateReg .srl .e s
def execSrlH (s : State) : Result := rotateReg .srl .h s
def execSrlL (s : State) : Result := rotateReg .srl .l s
def execSrlA (s : State) : Result := rotateReg .srl .a s

/-! `SRL (HL)` (R250) -/

def execSrlAtHL (s : State) : Result := rotateMem .srl s

end Sys2Proof.Machine
end

