-- ==== Sys2Proof/Machine/Bits.lean ====
section
/-! DEFINITION. BIT, RES and SET (spec/44_rotate_shift_bit.md R251 to R256). -/

namespace Sys2Proof.Machine

/-- `BIT b,r` (R251). -/
def testBitReg (b : BitIdx) (r : Reg8) (s : State) : Result :=
  finish (s.setFlags (bitFlags b (s.cpu.reg r) s.cpu.flags))

/-- `BIT b,(HL)` (R252): M3 reads; nothing is written back. -/
def testBitMem (b : BitIdx) (s : State) : Result :=
  let s3 := s.nextCycle
  finish (s3.setFlags (bitFlags b (s3.busRead s.cpu.hl) s.cpu.flags))

/-- `RES b,r` (R253). -/
def resetBitReg (b : BitIdx) (r : Reg8) (s : State) : Result :=
  finish (s.setReg r (resetBit b (s.cpu.reg r)))

/-- `RES b,(HL)` (R254). -/
def resetBitMem (b : BitIdx) (s : State) : Result :=
  modifyMem (fun v f => (resetBit b v, f)) s.nextCycle

/-- `SET b,r` (R255). -/
def setBitReg (b : BitIdx) (r : Reg8) (s : State) : Result :=
  finish (s.setReg r (setBit b (s.cpu.reg r)))

/-- `SET b,(HL)` (R256). -/
def setBitMem (b : BitIdx) (s : State) : Result :=
  modifyMem (fun v f => (setBit b v, f)) s.nextCycle

/-! `BIT b,r` (R251) -/

def execBit0B (s : State) : Result := testBitReg .b0 .b s
def execBit0C (s : State) : Result := testBitReg .b0 .c s
def execBit0D (s : State) : Result := testBitReg .b0 .d s
def execBit0E (s : State) : Result := testBitReg .b0 .e s
def execBit0H (s : State) : Result := testBitReg .b0 .h s
def execBit0L (s : State) : Result := testBitReg .b0 .l s
def execBit0A (s : State) : Result := testBitReg .b0 .a s
def execBit1B (s : State) : Result := testBitReg .b1 .b s
def execBit1C (s : State) : Result := testBitReg .b1 .c s
def execBit1D (s : State) : Result := testBitReg .b1 .d s
def execBit1E (s : State) : Result := testBitReg .b1 .e s
def execBit1H (s : State) : Result := testBitReg .b1 .h s
def execBit1L (s : State) : Result := testBitReg .b1 .l s
def execBit1A (s : State) : Result := testBitReg .b1 .a s
def execBit2B (s : State) : Result := testBitReg .b2 .b s
def execBit2C (s : State) : Result := testBitReg .b2 .c s
def execBit2D (s : State) : Result := testBitReg .b2 .d s
def execBit2E (s : State) : Result := testBitReg .b2 .e s
def execBit2H (s : State) : Result := testBitReg .b2 .h s
def execBit2L (s : State) : Result := testBitReg .b2 .l s
def execBit2A (s : State) : Result := testBitReg .b2 .a s
def execBit3B (s : State) : Result := testBitReg .b3 .b s
def execBit3C (s : State) : Result := testBitReg .b3 .c s
def execBit3D (s : State) : Result := testBitReg .b3 .d s
def execBit3E (s : State) : Result := testBitReg .b3 .e s
def execBit3H (s : State) : Result := testBitReg .b3 .h s
def execBit3L (s : State) : Result := testBitReg .b3 .l s
def execBit3A (s : State) : Result := testBitReg .b3 .a s
def execBit4B (s : State) : Result := testBitReg .b4 .b s
def execBit4C (s : State) : Result := testBitReg .b4 .c s
def execBit4D (s : State) : Result := testBitReg .b4 .d s
def execBit4E (s : State) : Result := testBitReg .b4 .e s
def execBit4H (s : State) : Result := testBitReg .b4 .h s
def execBit4L (s : State) : Result := testBitReg .b4 .l s
def execBit4A (s : State) : Result := testBitReg .b4 .a s
def execBit5B (s : State) : Result := testBitReg .b5 .b s
def execBit5C (s : State) : Result := testBitReg .b5 .c s
def execBit5D (s : State) : Result := testBitReg .b5 .d s
def execBit5E (s : State) : Result := testBitReg .b5 .e s
def execBit5H (s : State) : Result := testBitReg .b5 .h s
def execBit5L (s : State) : Result := testBitReg .b5 .l s
def execBit5A (s : State) : Result := testBitReg .b5 .a s
def execBit6B (s : State) : Result := testBitReg .b6 .b s
def execBit6C (s : State) : Result := testBitReg .b6 .c s
def execBit6D (s : State) : Result := testBitReg .b6 .d s
def execBit6E (s : State) : Result := testBitReg .b6 .e s
def execBit6H (s : State) : Result := testBitReg .b6 .h s
def execBit6L (s : State) : Result := testBitReg .b6 .l s
def execBit6A (s : State) : Result := testBitReg .b6 .a s
def execBit7B (s : State) : Result := testBitReg .b7 .b s
def execBit7C (s : State) : Result := testBitReg .b7 .c s
def execBit7D (s : State) : Result := testBitReg .b7 .d s
def execBit7E (s : State) : Result := testBitReg .b7 .e s
def execBit7H (s : State) : Result := testBitReg .b7 .h s
def execBit7L (s : State) : Result := testBitReg .b7 .l s
def execBit7A (s : State) : Result := testBitReg .b7 .a s

/-! `BIT b,(HL)` (R252) -/

def execBit0AtHL (s : State) : Result := testBitMem .b0 s
def execBit1AtHL (s : State) : Result := testBitMem .b1 s
def execBit2AtHL (s : State) : Result := testBitMem .b2 s
def execBit3AtHL (s : State) : Result := testBitMem .b3 s
def execBit4AtHL (s : State) : Result := testBitMem .b4 s
def execBit5AtHL (s : State) : Result := testBitMem .b5 s
def execBit6AtHL (s : State) : Result := testBitMem .b6 s
def execBit7AtHL (s : State) : Result := testBitMem .b7 s

/-! `RES b,r` (R253) -/

def execRes0B (s : State) : Result := resetBitReg .b0 .b s
def execRes0C (s : State) : Result := resetBitReg .b0 .c s
def execRes0D (s : State) : Result := resetBitReg .b0 .d s
def execRes0E (s : State) : Result := resetBitReg .b0 .e s
def execRes0H (s : State) : Result := resetBitReg .b0 .h s
def execRes0L (s : State) : Result := resetBitReg .b0 .l s
def execRes0A (s : State) : Result := resetBitReg .b0 .a s
def execRes1B (s : State) : Result := resetBitReg .b1 .b s
def execRes1C (s : State) : Result := resetBitReg .b1 .c s
def execRes1D (s : State) : Result := resetBitReg .b1 .d s
def execRes1E (s : State) : Result := resetBitReg .b1 .e s
def execRes1H (s : State) : Result := resetBitReg .b1 .h s
def execRes1L (s : State) : Result := resetBitReg .b1 .l s
def execRes1A (s : State) : Result := resetBitReg .b1 .a s
def execRes2B (s : State) : Result := resetBitReg .b2 .b s
def execRes2C (s : State) : Result := resetBitReg .b2 .c s
def execRes2D (s : State) : Result := resetBitReg .b2 .d s
def execRes2E (s : State) : Result := resetBitReg .b2 .e s
def execRes2H (s : State) : Result := resetBitReg .b2 .h s
def execRes2L (s : State) : Result := resetBitReg .b2 .l s
def execRes2A (s : State) : Result := resetBitReg .b2 .a s
def execRes3B (s : State) : Result := resetBitReg .b3 .b s
def execRes3C (s : State) : Result := resetBitReg .b3 .c s
def execRes3D (s : State) : Result := resetBitReg .b3 .d s
def execRes3E (s : State) : Result := resetBitReg .b3 .e s
def execRes3H (s : State) : Result := resetBitReg .b3 .h s
def execRes3L (s : State) : Result := resetBitReg .b3 .l s
def execRes3A (s : State) : Result := resetBitReg .b3 .a s
def execRes4B (s : State) : Result := resetBitReg .b4 .b s
def execRes4C (s : State) : Result := resetBitReg .b4 .c s
def execRes4D (s : State) : Result := resetBitReg .b4 .d s
def execRes4E (s : State) : Result := resetBitReg .b4 .e s
def execRes4H (s : State) : Result := resetBitReg .b4 .h s
def execRes4L (s : State) : Result := resetBitReg .b4 .l s
def execRes4A (s : State) : Result := resetBitReg .b4 .a s
def execRes5B (s : State) : Result := resetBitReg .b5 .b s
def execRes5C (s : State) : Result := resetBitReg .b5 .c s
def execRes5D (s : State) : Result := resetBitReg .b5 .d s
def execRes5E (s : State) : Result := resetBitReg .b5 .e s
def execRes5H (s : State) : Result := resetBitReg .b5 .h s
def execRes5L (s : State) : Result := resetBitReg .b5 .l s
def execRes5A (s : State) : Result := resetBitReg .b5 .a s
def execRes6B (s : State) : Result := resetBitReg .b6 .b s
def execRes6C (s : State) : Result := resetBitReg .b6 .c s
def execRes6D (s : State) : Result := resetBitReg .b6 .d s
def execRes6E (s : State) : Result := resetBitReg .b6 .e s
def execRes6H (s : State) : Result := resetBitReg .b6 .h s
def execRes6L (s : State) : Result := resetBitReg .b6 .l s
def execRes6A (s : State) : Result := resetBitReg .b6 .a s
def execRes7B (s : State) : Result := resetBitReg .b7 .b s
def execRes7C (s : State) : Result := resetBitReg .b7 .c s
def execRes7D (s : State) : Result := resetBitReg .b7 .d s
def execRes7E (s : State) : Result := resetBitReg .b7 .e s
def execRes7H (s : State) : Result := resetBitReg .b7 .h s
def execRes7L (s : State) : Result := resetBitReg .b7 .l s
def execRes7A (s : State) : Result := resetBitReg .b7 .a s

/-! `RES b,(HL)` (R254) -/

def execRes0AtHL (s : State) : Result := resetBitMem .b0 s
def execRes1AtHL (s : State) : Result := resetBitMem .b1 s
def execRes2AtHL (s : State) : Result := resetBitMem .b2 s
def execRes3AtHL (s : State) : Result := resetBitMem .b3 s
def execRes4AtHL (s : State) : Result := resetBitMem .b4 s
def execRes5AtHL (s : State) : Result := resetBitMem .b5 s
def execRes6AtHL (s : State) : Result := resetBitMem .b6 s
def execRes7AtHL (s : State) : Result := resetBitMem .b7 s

/-! `SET b,r` (R255) -/

def execSet0B (s : State) : Result := setBitReg .b0 .b s
def execSet0C (s : State) : Result := setBitReg .b0 .c s
def execSet0D (s : State) : Result := setBitReg .b0 .d s
def execSet0E (s : State) : Result := setBitReg .b0 .e s
def execSet0H (s : State) : Result := setBitReg .b0 .h s
def execSet0L (s : State) : Result := setBitReg .b0 .l s
def execSet0A (s : State) : Result := setBitReg .b0 .a s
def execSet1B (s : State) : Result := setBitReg .b1 .b s
def execSet1C (s : State) : Result := setBitReg .b1 .c s
def execSet1D (s : State) : Result := setBitReg .b1 .d s
def execSet1E (s : State) : Result := setBitReg .b1 .e s
def execSet1H (s : State) : Result := setBitReg .b1 .h s
def execSet1L (s : State) : Result := setBitReg .b1 .l s
def execSet1A (s : State) : Result := setBitReg .b1 .a s
def execSet2B (s : State) : Result := setBitReg .b2 .b s
def execSet2C (s : State) : Result := setBitReg .b2 .c s
def execSet2D (s : State) : Result := setBitReg .b2 .d s
def execSet2E (s : State) : Result := setBitReg .b2 .e s
def execSet2H (s : State) : Result := setBitReg .b2 .h s
def execSet2L (s : State) : Result := setBitReg .b2 .l s
def execSet2A (s : State) : Result := setBitReg .b2 .a s
def execSet3B (s : State) : Result := setBitReg .b3 .b s
def execSet3C (s : State) : Result := setBitReg .b3 .c s
def execSet3D (s : State) : Result := setBitReg .b3 .d s
def execSet3E (s : State) : Result := setBitReg .b3 .e s
def execSet3H (s : State) : Result := setBitReg .b3 .h s
def execSet3L (s : State) : Result := setBitReg .b3 .l s
def execSet3A (s : State) : Result := setBitReg .b3 .a s
def execSet4B (s : State) : Result := setBitReg .b4 .b s
def execSet4C (s : State) : Result := setBitReg .b4 .c s
def execSet4D (s : State) : Result := setBitReg .b4 .d s
def execSet4E (s : State) : Result := setBitReg .b4 .e s
def execSet4H (s : State) : Result := setBitReg .b4 .h s
def execSet4L (s : State) : Result := setBitReg .b4 .l s
def execSet4A (s : State) : Result := setBitReg .b4 .a s
def execSet5B (s : State) : Result := setBitReg .b5 .b s
def execSet5C (s : State) : Result := setBitReg .b5 .c s
def execSet5D (s : State) : Result := setBitReg .b5 .d s
def execSet5E (s : State) : Result := setBitReg .b5 .e s
def execSet5H (s : State) : Result := setBitReg .b5 .h s
def execSet5L (s : State) : Result := setBitReg .b5 .l s
def execSet5A (s : State) : Result := setBitReg .b5 .a s
def execSet6B (s : State) : Result := setBitReg .b6 .b s
def execSet6C (s : State) : Result := setBitReg .b6 .c s
def execSet6D (s : State) : Result := setBitReg .b6 .d s
def execSet6E (s : State) : Result := setBitReg .b6 .e s
def execSet6H (s : State) : Result := setBitReg .b6 .h s
def execSet6L (s : State) : Result := setBitReg .b6 .l s
def execSet6A (s : State) : Result := setBitReg .b6 .a s
def execSet7B (s : State) : Result := setBitReg .b7 .b s
def execSet7C (s : State) : Result := setBitReg .b7 .c s
def execSet7D (s : State) : Result := setBitReg .b7 .d s
def execSet7E (s : State) : Result := setBitReg .b7 .e s
def execSet7H (s : State) : Result := setBitReg .b7 .h s
def execSet7L (s : State) : Result := setBitReg .b7 .l s
def execSet7A (s : State) : Result := setBitReg .b7 .a s

/-! `SET b,(HL)` (R256) -/

def execSet0AtHL (s : State) : Result := setBitMem .b0 s
def execSet1AtHL (s : State) : Result := setBitMem .b1 s
def execSet2AtHL (s : State) : Result := setBitMem .b2 s
def execSet3AtHL (s : State) : Result := setBitMem .b3 s
def execSet4AtHL (s : State) : Result := setBitMem .b4 s
def execSet5AtHL (s : State) : Result := setBitMem .b5 s
def execSet6AtHL (s : State) : Result := setBitMem .b6 s
def execSet7AtHL (s : State) : Result := setBitMem .b7 s

end Sys2Proof.Machine
end

