-- ==== Sys2Proof/Machine/System.lean ====
section
/-! DEFINITION. The system instructions (spec/46_system.md): NOP, HALT, STOP, DI, EI, the prefix byte
and the unassigned opcodes. -/

namespace Sys2Proof.Machine

/-- The registers after HALT (R291): the HALT-bug latch is armed instead of halting when interrupts are
masked and one is pending. -/
def Cpu.halt (r : Cpu) (q : Irq) : Cpu :=
  if !r.ime && q.pending != 0 then { r with haltBug := true } else { r with halted := true }

/-- An unassigned opcode (R296): a no-op, or under the policy `fault` the end of the run, in the state after
the opcode fetch (R305). -/
def unassigned (opcode : Byte) (s : State) : Result :=
  match s.params.undefinedPolicy with
  | .nop => finish s
  | .fault => .fault (.fatalDecode opcode s)

/-- The rule of spec/44_rotate_shift_bit.md that `op2` selects (R230), in the M-cycle of `op2`. -/
def runExtended (op2 : Byte) (s : State) : Result :=
  let y := fieldY op2
  match fieldX op2, operand8 (fieldZ op2) with
  | 0, .reg r => rotateReg (rotOpOf y) r s
  | 0, .mem => rotateMem (rotOpOf y) s
  | 1, .reg r => testBitReg (bitIdxOf y) r s
  | 1, .mem => testBitMem (bitIdxOf y) s
  | 2, .reg r => resetBitReg (bitIdxOf y) r s
  | 2, .mem => resetBitMem (bitIdxOf y) s
  | _, .reg r => setBitReg (bitIdxOf y) r s
  | _, .mem => setBitMem (bitIdxOf y) s

/-! `PREFIX CB` (R295) -/

/-- M2 fetches `op2`, and the rule it selects is executed. -/
def execPrefixCB (s : State) : Result :=
  let (op2, s2) := s.nextCycle.fetch8
  runExtended op2 s2

/-! `NOP` (R290) -/

def execNop (s : State) : Result := finish s

/-! `HALT` (R291) -/

def execHalt (s : State) : Result := finish (s.withCpu (s.cpu.halt s.irq))

/-! `STOP` (R292) -/

def execStop (_n : Byte) (s : State) : Result := finish (s.withCpu { s.cpu with stopped := true })

/-! `DI` (R293) -/

def execDi (s : State) : Result := finish (s.withCpu { s.cpu with ime := false, eiCounter := 0 })

/-! `EI` (R294) -/

def execEi (s : State) : Result := finish (s.withCpu { s.cpu with eiCounter := 2 })

/-! `UNDEFINED` (R296) -/

def execUndefinedD3 (s : State) : Result := unassigned 0xD3 s
def execUndefinedDB (s : State) : Result := unassigned 0xDB s
def execUndefinedDD (s : State) : Result := unassigned 0xDD s
def execUndefinedE3 (s : State) : Result := unassigned 0xE3 s
def execUndefinedE4 (s : State) : Result := unassigned 0xE4 s
def execUndefinedEB (s : State) : Result := unassigned 0xEB s
def execUndefinedEC (s : State) : Result := unassigned 0xEC s
def execUndefinedED (s : State) : Result := unassigned 0xED s
def execUndefinedF4 (s : State) : Result := unassigned 0xF4 s
def execUndefinedFC (s : State) : Result := unassigned 0xFC s
def execUndefinedFD (s : State) : Result := unassigned 0xFD s

end Sys2Proof.Machine
end

