-- ==== Sys2Proof/Machine/Dispatch.lean ====
section
/-! DEFINITION. The meaning of every instruction. -/

namespace Sys2Proof.Machine

/-- Executes an instruction from the M-cycle of its last fetched byte (R13, log 2). -/
def exec (i : Instr) (s : State) : Host.Outcome State Fault Refusal :=
  match i with
  | .nop => Sys2Proof.Machine.execNop s
  | .ldBCImm16 nn => Sys2Proof.Machine.execLdBCImm16 nn s
  | .ldAtBCA => Sys2Proof.Machine.execLdAtBCA s
  | .incBC => Sys2Proof.Machine.execIncBC s
  | .incB => Sys2Proof.Machine.execIncB s
  | .decB => Sys2Proof.Machine.execDecB s
  | .ldBImm n => Sys2Proof.Machine.execLdBImm n s
  | .rlca => Sys2Proof.Machine.execRlca s
  | .ldAtNnSP nn => Sys2Proof.Machine.execLdAtNnSP nn s
  | .addHLBC => Sys2Proof.Machine.execAddHLBC s
  | .ldAAtBC => Sys2Proof.Machine.execLdAAtBC s
  | .decBC => Sys2Proof.Machine.execDecBC s
  | .incC => Sys2Proof.Machine.execIncC s
  | .decC => Sys2Proof.Machine.execDecC s
  | .ldCImm n => Sys2Proof.Machine.execLdCImm n s
  | .rrca => Sys2Proof.Machine.execRrca s
  | .stop n => Sys2Proof.Machine.execStop n s
  | .ldDEImm16 nn => Sys2Proof.Machine.execLdDEImm16 nn s
  | .ldAtDEA => Sys2Proof.Machine.execLdAtDEA s
  | .incDE => Sys2Proof.Machine.execIncDE s
  | .incD => Sys2Proof.Machine.execIncD s
  | .decD => Sys2Proof.Machine.execDecD s
  | .ldDImm n => Sys2Proof.Machine.execLdDImm n s
  | .rla => Sys2Proof.Machine.execRla s
  | .jrOff e => Sys2Proof.Machine.execJrOff e s
  | .addHLDE => Sys2Proof.Machine.execAddHLDE s
  | .ldAAtDE => Sys2Proof.Machine.execLdAAtDE s
  | .decDE => Sys2Proof.Machine.execDecDE s
  | .incE => Sys2Proof.Machine.execIncE s
  | .decE => Sys2Proof.Machine.execDecE s
  | .ldEImm n => Sys2Proof.Machine.execLdEImm n s
  | .rra => Sys2Proof.Machine.execRra s
  | .jrNZOff e => Sys2Proof.Machine.execJrNZOff e s
  | .ldHLImm16 nn => Sys2Proof.Machine.execLdHLImm16 nn s
  | .ldAtHLIncA => Sys2Proof.Machine.execLdAtHLIncA s
  | .incHL => Sys2Proof.Machine.execIncHL s
  | .incH => Sys2Proof.Machine.execIncH s
  | .decH => Sys2Proof.Machine.execDecH s
  | .ldHImm n => Sys2Proof.Machine.execLdHImm n s
  | .daa => Sys2Proof.Machine.execDaa s
  | .jrZOff e => Sys2Proof.Machine.execJrZOff e s
  | .addHLHL => Sys2Proof.Machine.execAddHLHL s
  | .ldAAtHLInc => Sys2Proof.Machine.execLdAAtHLInc s
  | .decHL => Sys2Proof.Machine.execDecHL s
  | .incL => Sys2Proof.Machine.execIncL s
  | .decL => Sys2Proof.Machine.execDecL s
  | .ldLImm n => Sys2Proof.Machine.execLdLImm n s
  | .cpl => Sys2Proof.Machine.execCpl s
  | .jrNCOff e => Sys2Proof.Machine.execJrNCOff e s
  | .ldSPImm16 nn => Sys2Proof.Machine.execLdSPImm16 nn s
  | .ldAtHLDecA => Sys2Proof.Machine.execLdAtHLDecA s
  | .incSP => Sys2Proof.Machine.execIncSP s
  | .incAtHL => Sys2Proof.Machine.execIncAtHL s
  | .decAtHL => Sys2Proof.Machine.execDecAtHL s
  | .ldAtHLImm n => Sys2Proof.Machine.execLdAtHLImm n s
  | .scf => Sys2Proof.Machine.execScf s
  | .jrCOff e => Sys2Proof.Machine.execJrCOff e s
  | .addHLSP => Sys2Proof.Machine.execAddHLSP s
  | .ldAAtHLDec => Sys2Proof.Machine.execLdAAtHLDec s
  | .decSP => Sys2Proof.Machine.execDecSP s
  | .incA => Sys2Proof.Machine.execIncA s
  | .decA => Sys2Proof.Machine.execDecA s
  | .ldAImm n => Sys2Proof.Machine.execLdAImm n s
  | .ccf => Sys2Proof.Machine.execCcf s
  | .ldBB => Sys2Proof.Machine.execLdBB s
  | .ldBC => Sys2Proof.Machine.execLdBC s
  | .ldBD => Sys2Proof.Machine.execLdBD s
  | .ldBE => Sys2Proof.Machine.execLdBE s
  | .ldBH => Sys2Proof.Machine.execLdBH s
  | .ldBL => Sys2Proof.Machine.execLdBL s
  | .ldBAtHL => Sys2Proof.Machine.execLdBAtHL s
  | .ldBA => Sys2Proof.Machine.execLdBA s
  | .ldCB => Sys2Proof.Machine.execLdCB s
  | .ldCC => Sys2Proof.Machine.execLdCC s
  | .ldCD => Sys2Proof.Machine.execLdCD s
  | .ldCE => Sys2Proof.Machine.execLdCE s
  | .ldCH => Sys2Proof.Machine.execLdCH s
  | .ldCL => Sys2Proof.Machine.execLdCL s
  | .ldCAtHL => Sys2Proof.Machine.execLdCAtHL s
  | .ldCA => Sys2Proof.Machine.execLdCA s
  | .ldDB => Sys2Proof.Machine.execLdDB s
  | .ldDC => Sys2Proof.Machine.execLdDC s
  | .ldDD => Sys2Proof.Machine.execLdDD s
  | .ldDE => Sys2Proof.Machine.execLdDE s
  | .ldDH => Sys2Proof.Machine.execLdDH s
  | .ldDL => Sys2Proof.Machine.execLdDL s
  | .ldDAtHL => Sys2Proof.Machine.execLdDAtHL s
  | .ldDA => Sys2Proof.Machine.execLdDA s
  | .ldEB => Sys2Proof.Machine.execLdEB s
  | .ldEC => Sys2Proof.Machine.execLdEC s
  | .ldED => Sys2Proof.Machine.execLdED s
  | .ldEE => Sys2Proof.Machine.execLdEE s
  | .ldEH => Sys2Proof.Machine.execLdEH s
  | .ldEL => Sys2Proof.Machine.execLdEL s
  | .ldEAtHL => Sys2Proof.Machine.execLdEAtHL s
  | .ldEA => Sys2Proof.Machine.execLdEA s
  | .ldHB => Sys2Proof.Machine.execLdHB s
  | .ldHC => Sys2Proof.Machine.execLdHC s
  | .ldHD => Sys2Proof.Machine.execLdHD s
  | .ldHE => Sys2Proof.Machine.execLdHE s
  | .ldHH => Sys2Proof.Machine.execLdHH s
  | .ldHL => Sys2Proof.Machine.execLdHL s
  | .ldHAtHL => Sys2Proof.Machine.execLdHAtHL s
  | .ldHA => Sys2Proof.Machine.execLdHA s
  | .ldLB => Sys2Proof.Machine.execLdLB s
  | .ldLC => Sys2Proof.Machine.execLdLC s
  | .ldLD => Sys2Proof.Machine.execLdLD s
  | .ldLE => Sys2Proof.Machine.execLdLE s
  | .ldLH => Sys2Proof.Machine.execLdLH s
  | .ldLL => Sys2Proof.Machine.execLdLL s
  | .ldLAtHL => Sys2Proof.Machine.execLdLAtHL s
  | .ldLA => Sys2Proof.Machine.execLdLA s
  | .ldAtHLB => Sys2Proof.Machine.execLdAtHLB s
  | .ldAtHLC => Sys2Proof.Machine.execLdAtHLC s
  | .ldAtHLD => Sys2Proof.Machine.execLdAtHLD s
  | .ldAtHLE => Sys2Proof.Machine.execLdAtHLE s
  | .ldAtHLH => Sys2Proof.Machine.execLdAtHLH s
  | .ldAtHLL => Sys2Proof.Machine.execLdAtHLL s
  | .halt => Sys2Proof.Machine.execHalt s
  | .ldAtHLA => Sys2Proof.Machine.execLdAtHLA s
  | .ldAB => Sys2Proof.Machine.execLdAB s
  | .ldAC => Sys2Proof.Machine.execLdAC s
  | .ldAD => Sys2Proof.Machine.execLdAD s
  | .ldAE => Sys2Proof.Machine.execLdAE s
  | .ldAH => Sys2Proof.Machine.execLdAH s
  | .ldAL => Sys2Proof.Machine.execLdAL s
  | .ldAAtHL => Sys2Proof.Machine.execLdAAtHL s
  | .ldAA => Sys2Proof.Machine.execLdAA s
  | .addAB => Sys2Proof.Machine.execAddAB s
  | .addAC => Sys2Proof.Machine.execAddAC s
  | .addAD => Sys2Proof.Machine.execAddAD s
  | .addAE => Sys2Proof.Machine.execAddAE s
  | .addAH => Sys2Proof.Machine.execAddAH s
  | .addAL => Sys2Proof.Machine.execAddAL s
  | .addAAtHL => Sys2Proof.Machine.execAddAAtHL s
  | .addAA => Sys2Proof.Machine.execAddAA s
  | .adcAB => Sys2Proof.Machine.execAdcAB s
  | .adcAC => Sys2Proof.Machine.execAdcAC s
  | .adcAD => Sys2Proof.Machine.execAdcAD s
  | .adcAE => Sys2Proof.Machine.execAdcAE s
  | .adcAH => Sys2Proof.Machine.execAdcAH s
  | .adcAL => Sys2Proof.Machine.execAdcAL s
  | .adcAAtHL => Sys2Proof.Machine.execAdcAAtHL s
  | .adcAA => Sys2Proof.Machine.execAdcAA s
  | .subAB => Sys2Proof.Machine.execSubAB s
  | .subAC => Sys2Proof.Machine.execSubAC s
  | .subAD => Sys2Proof.Machine.execSubAD s
  | .subAE => Sys2Proof.Machine.execSubAE s
  | .subAH => Sys2Proof.Machine.execSubAH s
  | .subAL => Sys2Proof.Machine.execSubAL s
  | .subAAtHL => Sys2Proof.Machine.execSubAAtHL s
  | .subAA => Sys2Proof.Machine.execSubAA s
  | .sbcAB => Sys2Proof.Machine.execSbcAB s
  | .sbcAC => Sys2Proof.Machine.execSbcAC s
  | .sbcAD => Sys2Proof.Machine.execSbcAD s
  | .sbcAE => Sys2Proof.Machine.execSbcAE s
  | .sbcAH => Sys2Proof.Machine.execSbcAH s
  | .sbcAL => Sys2Proof.Machine.execSbcAL s
  | .sbcAAtHL => Sys2Proof.Machine.execSbcAAtHL s
  | .sbcAA => Sys2Proof.Machine.execSbcAA s
  | .andAB => Sys2Proof.Machine.execAndAB s
  | .andAC => Sys2Proof.Machine.execAndAC s
  | .andAD => Sys2Proof.Machine.execAndAD s
  | .andAE => Sys2Proof.Machine.execAndAE s
  | .andAH => Sys2Proof.Machine.execAndAH s
  | .andAL => Sys2Proof.Machine.execAndAL s
  | .andAAtHL => Sys2Proof.Machine.execAndAAtHL s
  | .andAA => Sys2Proof.Machine.execAndAA s
  | .xorAB => Sys2Proof.Machine.execXorAB s
  | .xorAC => Sys2Proof.Machine.execXorAC s
  | .xorAD => Sys2Proof.Machine.execXorAD s
  | .xorAE => Sys2Proof.Machine.execXorAE s
  | .xorAH => Sys2Proof.Machine.execXorAH s
  | .xorAL => Sys2Proof.Machine.execXorAL s
  | .xorAAtHL => Sys2Proof.Machine.execXorAAtHL s
  | .xorAA => Sys2Proof.Machine.execXorAA s
  | .orAB => Sys2Proof.Machine.execOrAB s
  | .orAC => Sys2Proof.Machine.execOrAC s
  | .orAD => Sys2Proof.Machine.execOrAD s
  | .orAE => Sys2Proof.Machine.execOrAE s
  | .orAH => Sys2Proof.Machine.execOrAH s
  | .orAL => Sys2Proof.Machine.execOrAL s
  | .orAAtHL => Sys2Proof.Machine.execOrAAtHL s
  | .orAA => Sys2Proof.Machine.execOrAA s
  | .cpAB => Sys2Proof.Machine.execCpAB s
  | .cpAC => Sys2Proof.Machine.execCpAC s
  | .cpAD => Sys2Proof.Machine.execCpAD s
  | .cpAE => Sys2Proof.Machine.execCpAE s
  | .cpAH => Sys2Proof.Machine.execCpAH s
  | .cpAL => Sys2Proof.Machine.execCpAL s
  | .cpAAtHL => Sys2Proof.Machine.execCpAAtHL s
  | .cpAA => Sys2Proof.Machine.execCpAA s
  | .retNZ => Sys2Proof.Machine.execRetNZ s
  | .popBC => Sys2Proof.Machine.execPopBC s
  | .jpNZImm16 nn => Sys2Proof.Machine.execJpNZImm16 nn s
  | .jpImm16 nn => Sys2Proof.Machine.execJpImm16 nn s
  | .callNZImm16 nn => Sys2Proof.Machine.execCallNZImm16 nn s
  | .pushBC => Sys2Proof.Machine.execPushBC s
  | .addAImm n => Sys2Proof.Machine.execAddAImm n s
  | .rst00H => Sys2Proof.Machine.execRst00H s
  | .retZ => Sys2Proof.Machine.execRetZ s
  | .ret => Sys2Proof.Machine.execRet s
  | .jpZImm16 nn => Sys2Proof.Machine.execJpZImm16 nn s
  | .prefixCB => Sys2Proof.Machine.execPrefixCB s
  | .callZImm16 nn => Sys2Proof.Machine.execCallZImm16 nn s
  | .callImm16 nn => Sys2Proof.Machine.execCallImm16 nn s
  | .adcAImm n => Sys2Proof.Machine.execAdcAImm n s
  | .rst08H => Sys2Proof.Machine.execRst08H s
  | .retNC => Sys2Proof.Machine.execRetNC s
  | .popDE => Sys2Proof.Machine.execPopDE s
  | .jpNCImm16 nn => Sys2Proof.Machine.execJpNCImm16 nn s
  | .undefinedD3 => Sys2Proof.Machine.execUndefinedD3 s
  | .callNCImm16 nn => Sys2Proof.Machine.execCallNCImm16 nn s
  | .pushDE => Sys2Proof.Machine.execPushDE s
  | .subAImm n => Sys2Proof.Machine.execSubAImm n s
  | .rst10H => Sys2Proof.Machine.execRst10H s
  | .retC => Sys2Proof.Machine.execRetC s
  | .reti => Sys2Proof.Machine.execReti s
  | .jpCImm16 nn => Sys2Proof.Machine.execJpCImm16 nn s
  | .undefinedDB => Sys2Proof.Machine.execUndefinedDB s
  | .callCImm16 nn => Sys2Proof.Machine.execCallCImm16 nn s
  | .undefinedDD => Sys2Proof.Machine.execUndefinedDD s
  | .sbcAImm n => Sys2Proof.Machine.execSbcAImm n s
  | .rst18H => Sys2Proof.Machine.execRst18H s
  | .ldhAtNA n => Sys2Proof.Machine.execLdhAtNA n s
  | .popHL => Sys2Proof.Machine.execPopHL s
  | .ldhAtCA => Sys2Proof.Machine.execLdhAtCA s
  | .undefinedE3 => Sys2Proof.Machine.execUndefinedE3 s
  | .undefinedE4 => Sys2Proof.Machine.execUndefinedE4 s
  | .pushHL => Sys2Proof.Machine.execPushHL s
  | .andAImm n => Sys2Proof.Machine.execAndAImm n s
  | .rst20H => Sys2Proof.Machine.execRst20H s
  | .addSPOff e => Sys2Proof.Machine.execAddSPOff e s
  | .jpHL => Sys2Proof.Machine.execJpHL s
  | .ldAtNnA nn => Sys2Proof.Machine.execLdAtNnA nn s
  | .undefinedEB => Sys2Proof.Machine.execUndefinedEB s
  | .undefinedEC => Sys2Proof.Machine.execUndefinedEC s
  | .undefinedED => Sys2Proof.Machine.execUndefinedED s
  | .xorAImm n => Sys2Proof.Machine.execXorAImm n s
  | .rst28H => Sys2Proof.Machine.execRst28H s
  | .ldhAAtN n => Sys2Proof.Machine.execLdhAAtN n s
  | .popAF => Sys2Proof.Machine.execPopAF s
  | .ldhAAtC => Sys2Proof.Machine.execLdhAAtC s
  | .di => Sys2Proof.Machine.execDi s
  | .undefinedF4 => Sys2Proof.Machine.execUndefinedF4 s
  | .pushAF => Sys2Proof.Machine.execPushAF s
  | .orAImm n => Sys2Proof.Machine.execOrAImm n s
  | .rst30H => Sys2Proof.Machine.execRst30H s
  | .ldHLSPOff e => Sys2Proof.Machine.execLdHLSPOff e s
  | .ldSPHL => Sys2Proof.Machine.execLdSPHL s
  | .ldAAtNn nn => Sys2Proof.Machine.execLdAAtNn nn s
  | .ei => Sys2Proof.Machine.execEi s
  | .undefinedFC => Sys2Proof.Machine.execUndefinedFC s
  | .undefinedFD => Sys2Proof.Machine.execUndefinedFD s
  | .cpAImm n => Sys2Proof.Machine.execCpAImm n s
  | .rst38H => Sys2Proof.Machine.execRst38H s
  | .rlcB => Sys2Proof.Machine.execRlcB s
  | .rlcC => Sys2Proof.Machine.execRlcC s
  | .rlcD => Sys2Proof.Machine.execRlcD s
  | .rlcE => Sys2Proof.Machine.execRlcE s
  | .rlcH => Sys2Proof.Machine.execRlcH s
  | .rlcL => Sys2Proof.Machine.execRlcL s
  | .rlcAtHL => Sys2Proof.Machine.execRlcAtHL s
  | .rlcA => Sys2Proof.Machine.execRlcA s
  | .rrcB => Sys2Proof.Machine.execRrcB s
  | .rrcC => Sys2Proof.Machine.execRrcC s
  | .rrcD => Sys2Proof.Machine.execRrcD s
  | .rrcE => Sys2Proof.Machine.execRrcE s
  | .rrcH => Sys2Proof.Machine.execRrcH s
  | .rrcL => Sys2Proof.Machine.execRrcL s
  | .rrcAtHL => Sys2Proof.Machine.execRrcAtHL s
  | .rrcA => Sys2Proof.Machine.execRrcA s
  | .rlB => Sys2Proof.Machine.execRlB s
  | .rlC => Sys2Proof.Machine.execRlC s
  | .rlD => Sys2Proof.Machine.execRlD s
  | .rlE => Sys2Proof.Machine.execRlE s
  | .rlH => Sys2Proof.Machine.execRlH s
  | .rlL => Sys2Proof.Machine.execRlL s
  | .rlAtHL => Sys2Proof.Machine.execRlAtHL s
  | .rlA => Sys2Proof.Machine.execRlA s
  | .rrB => Sys2Proof.Machine.execRrB s
  | .rrC => Sys2Proof.Machine.execRrC s
  | .rrD => Sys2Proof.Machine.execRrD s
  | .rrE => Sys2Proof.Machine.execRrE s
  | .rrH => Sys2Proof.Machine.execRrH s
  | .rrL => Sys2Proof.Machine.execRrL s
  | .rrAtHL => Sys2Proof.Machine.execRrAtHL s
  | .rrA => Sys2Proof.Machine.execRrA s
  | .slaB => Sys2Proof.Machine.execSlaB s
  | .slaC => Sys2Proof.Machine.execSlaC s
  | .slaD => Sys2Proof.Machine.execSlaD s
  | .slaE => Sys2Proof.Machine.execSlaE s
  | .slaH => Sys2Proof.Machine.execSlaH s
  | .slaL => Sys2Proof.Machine.execSlaL s
  | .slaAtHL => Sys2Proof.Machine.execSlaAtHL s
  | .slaA => Sys2Proof.Machine.execSlaA s
  | .sraB => Sys2Proof.Machine.execSraB s
  | .sraC => Sys2Proof.Machine.execSraC s
  | .sraD => Sys2Proof.Machine.execSraD s
  | .sraE => Sys2Proof.Machine.execSraE s
  | .sraH => Sys2Proof.Machine.execSraH s
  | .sraL => Sys2Proof.Machine.execSraL s
  | .sraAtHL => Sys2Proof.Machine.execSraAtHL s
  | .sraA => Sys2Proof.Machine.execSraA s
  | .swapB => Sys2Proof.Machine.execSwapB s
  | .swapC => Sys2Proof.Machine.execSwapC s
  | .swapD => Sys2Proof.Machine.execSwapD s
  | .swapE => Sys2Proof.Machine.execSwapE s
  | .swapH => Sys2Proof.Machine.execSwapH s
  | .swapL => Sys2Proof.Machine.execSwapL s
  | .swapAtHL => Sys2Proof.Machine.execSwapAtHL s
  | .swapA => Sys2Proof.Machine.execSwapA s
  | .srlB => Sys2Proof.Machine.execSrlB s
  | .srlC => Sys2Proof.Machine.execSrlC s
  | .srlD => Sys2Proof.Machine.execSrlD s
  | .srlE => Sys2Proof.Machine.execSrlE s
  | .srlH => Sys2Proof.Machine.execSrlH s
  | .srlL => Sys2Proof.Machine.execSrlL s
  | .srlAtHL => Sys2Proof.Machine.execSrlAtHL s
  | .srlA => Sys2Proof.Machine.execSrlA s
  | .bit0B => Sys2Proof.Machine.execBit0B s
  | .bit0C => Sys2Proof.Machine.execBit0C s
  | .bit0D => Sys2Proof.Machine.execBit0D s
  | .bit0E => Sys2Proof.Machine.execBit0E s
  | .bit0H => Sys2Proof.Machine.execBit0H s
  | .bit0L => Sys2Proof.Machine.execBit0L s
  | .bit0AtHL => Sys2Proof.Machine.execBit0AtHL s
  | .bit0A => Sys2Proof.Machine.execBit0A s
  | .bit1B => Sys2Proof.Machine.execBit1B s
  | .bit1C => Sys2Proof.Machine.execBit1C s
  | .bit1D => Sys2Proof.Machine.execBit1D s
  | .bit1E => Sys2Proof.Machine.execBit1E s
  | .bit1H => Sys2Proof.Machine.execBit1H s
  | .bit1L => Sys2Proof.Machine.execBit1L s
  | .bit1AtHL => Sys2Proof.Machine.execBit1AtHL s
  | .bit1A => Sys2Proof.Machine.execBit1A s
  | .bit2B => Sys2Proof.Machine.execBit2B s
  | .bit2C => Sys2Proof.Machine.execBit2C s
  | .bit2D => Sys2Proof.Machine.execBit2D s
  | .bit2E => Sys2Proof.Machine.execBit2E s
  | .bit2H => Sys2Proof.Machine.execBit2H s
  | .bit2L => Sys2Proof.Machine.execBit2L s
  | .bit2AtHL => Sys2Proof.Machine.execBit2AtHL s
  | .bit2A => Sys2Proof.Machine.execBit2A s
  | .bit3B => Sys2Proof.Machine.execBit3B s
  | .bit3C => Sys2Proof.Machine.execBit3C s
  | .bit3D => Sys2Proof.Machine.execBit3D s
  | .bit3E => Sys2Proof.Machine.execBit3E s
  | .bit3H => Sys2Proof.Machine.execBit3H s
  | .bit3L => Sys2Proof.Machine.execBit3L s
  | .bit3AtHL => Sys2Proof.Machine.execBit3AtHL s
  | .bit3A => Sys2Proof.Machine.execBit3A s
  | .bit4B => Sys2Proof.Machine.execBit4B s
  | .bit4C => Sys2Proof.Machine.execBit4C s
  | .bit4D => Sys2Proof.Machine.execBit4D s
  | .bit4E => Sys2Proof.Machine.execBit4E s
  | .bit4H => Sys2Proof.Machine.execBit4H s
  | .bit4L => Sys2Proof.Machine.execBit4L s
  | .bit4AtHL => Sys2Proof.Machine.execBit4AtHL s
  | .bit4A => Sys2Proof.Machine.execBit4A s
  | .bit5B => Sys2Proof.Machine.execBit5B s
  | .bit5C => Sys2Proof.Machine.execBit5C s
  | .bit5D => Sys2Proof.Machine.execBit5D s
  | .bit5E => Sys2Proof.Machine.execBit5E s
  | .bit5H => Sys2Proof.Machine.execBit5H s
  | .bit5L => Sys2Proof.Machine.execBit5L s
  | .bit5AtHL => Sys2Proof.Machine.execBit5AtHL s
  | .bit5A => Sys2Proof.Machine.execBit5A s
  | .bit6B => Sys2Proof.Machine.execBit6B s
  | .bit6C => Sys2Proof.Machine.execBit6C s
  | .bit6D => Sys2Proof.Machine.execBit6D s
  | .bit6E => Sys2Proof.Machine.execBit6E s
  | .bit6H => Sys2Proof.Machine.execBit6H s
  | .bit6L => Sys2Proof.Machine.execBit6L s
  | .bit6AtHL => Sys2Proof.Machine.execBit6AtHL s
  | .bit6A => Sys2Proof.Machine.execBit6A s
  | .bit7B => Sys2Proof.Machine.execBit7B s
  | .bit7C => Sys2Proof.Machine.execBit7C s
  | .bit7D => Sys2Proof.Machine.execBit7D s
  | .bit7E => Sys2Proof.Machine.execBit7E s
  | .bit7H => Sys2Proof.Machine.execBit7H s
  | .bit7L => Sys2Proof.Machine.execBit7L s
  | .bit7AtHL => Sys2Proof.Machine.execBit7AtHL s
  | .bit7A => Sys2Proof.Machine.execBit7A s
  | .res0B => Sys2Proof.Machine.execRes0B s
  | .res0C => Sys2Proof.Machine.execRes0C s
  | .res0D => Sys2Proof.Machine.execRes0D s
  | .res0E => Sys2Proof.Machine.execRes0E s
  | .res0H => Sys2Proof.Machine.execRes0H s
  | .res0L => Sys2Proof.Machine.execRes0L s
  | .res0AtHL => Sys2Proof.Machine.execRes0AtHL s
  | .res0A => Sys2Proof.Machine.execRes0A s
  | .res1B => Sys2Proof.Machine.execRes1B s
  | .res1C => Sys2Proof.Machine.execRes1C s
  | .res1D => Sys2Proof.Machine.execRes1D s
  | .res1E => Sys2Proof.Machine.execRes1E s
  | .res1H => Sys2Proof.Machine.execRes1H s
  | .res1L => Sys2Proof.Machine.execRes1L s
  | .res1AtHL => Sys2Proof.Machine.execRes1AtHL s
  | .res1A => Sys2Proof.Machine.execRes1A s
  | .res2B => Sys2Proof.Machine.execRes2B s
  | .res2C => Sys2Proof.Machine.execRes2C s
  | .res2D => Sys2Proof.Machine.execRes2D s
  | .res2E => Sys2Proof.Machine.execRes2E s
  | .res2H => Sys2Proof.Machine.execRes2H s
  | .res2L => Sys2Proof.Machine.execRes2L s
  | .res2AtHL => Sys2Proof.Machine.execRes2AtHL s
  | .res2A => Sys2Proof.Machine.execRes2A s
  | .res3B => Sys2Proof.Machine.execRes3B s
  | .res3C => Sys2Proof.Machine.execRes3C s
  | .res3D => Sys2Proof.Machine.execRes3D s
  | .res3E => Sys2Proof.Machine.execRes3E s
  | .res3H => Sys2Proof.Machine.execRes3H s
  | .res3L => Sys2Proof.Machine.execRes3L s
  | .res3AtHL => Sys2Proof.Machine.execRes3AtHL s
  | .res3A => Sys2Proof.Machine.execRes3A s
  | .res4B => Sys2Proof.Machine.execRes4B s
  | .res4C => Sys2Proof.Machine.execRes4C s
  | .res4D => Sys2Proof.Machine.execRes4D s
  | .res4E => Sys2Proof.Machine.execRes4E s
  | .res4H => Sys2Proof.Machine.execRes4H s
  | .res4L => Sys2Proof.Machine.execRes4L s
  | .res4AtHL => Sys2Proof.Machine.execRes4AtHL s
  | .res4A => Sys2Proof.Machine.execRes4A s
  | .res5B => Sys2Proof.Machine.execRes5B s
  | .res5C => Sys2Proof.Machine.execRes5C s
  | .res5D => Sys2Proof.Machine.execRes5D s
  | .res5E => Sys2Proof.Machine.execRes5E s
  | .res5H => Sys2Proof.Machine.execRes5H s
  | .res5L => Sys2Proof.Machine.execRes5L s
  | .res5AtHL => Sys2Proof.Machine.execRes5AtHL s
  | .res5A => Sys2Proof.Machine.execRes5A s
  | .res6B => Sys2Proof.Machine.execRes6B s
  | .res6C => Sys2Proof.Machine.execRes6C s
  | .res6D => Sys2Proof.Machine.execRes6D s
  | .res6E => Sys2Proof.Machine.execRes6E s
  | .res6H => Sys2Proof.Machine.execRes6H s
  | .res6L => Sys2Proof.Machine.execRes6L s
  | .res6AtHL => Sys2Proof.Machine.execRes6AtHL s
  | .res6A => Sys2Proof.Machine.execRes6A s
  | .res7B => Sys2Proof.Machine.execRes7B s
  | .res7C => Sys2Proof.Machine.execRes7C s
  | .res7D => Sys2Proof.Machine.execRes7D s
  | .res7E => Sys2Proof.Machine.execRes7E s
  | .res7H => Sys2Proof.Machine.execRes7H s
  | .res7L => Sys2Proof.Machine.execRes7L s
  | .res7AtHL => Sys2Proof.Machine.execRes7AtHL s
  | .res7A => Sys2Proof.Machine.execRes7A s
  | .set0B => Sys2Proof.Machine.execSet0B s
  | .set0C => Sys2Proof.Machine.execSet0C s
  | .set0D => Sys2Proof.Machine.execSet0D s
  | .set0E => Sys2Proof.Machine.execSet0E s
  | .set0H => Sys2Proof.Machine.execSet0H s
  | .set0L => Sys2Proof.Machine.execSet0L s
  | .set0AtHL => Sys2Proof.Machine.execSet0AtHL s
  | .set0A => Sys2Proof.Machine.execSet0A s
  | .set1B => Sys2Proof.Machine.execSet1B s
  | .set1C => Sys2Proof.Machine.execSet1C s
  | .set1D => Sys2Proof.Machine.execSet1D s
  | .set1E => Sys2Proof.Machine.execSet1E s
  | .set1H => Sys2Proof.Machine.execSet1H s
  | .set1L => Sys2Proof.Machine.execSet1L s
  | .set1AtHL => Sys2Proof.Machine.execSet1AtHL s
  | .set1A => Sys2Proof.Machine.execSet1A s
  | .set2B => Sys2Proof.Machine.execSet2B s
  | .set2C => Sys2Proof.Machine.execSet2C s
  | .set2D => Sys2Proof.Machine.execSet2D s
  | .set2E => Sys2Proof.Machine.execSet2E s
  | .set2H => Sys2Proof.Machine.execSet2H s
  | .set2L => Sys2Proof.Machine.execSet2L s
  | .set2AtHL => Sys2Proof.Machine.execSet2AtHL s
  | .set2A => Sys2Proof.Machine.execSet2A s
  | .set3B => Sys2Proof.Machine.execSet3B s
  | .set3C => Sys2Proof.Machine.execSet3C s
  | .set3D => Sys2Proof.Machine.execSet3D s
  | .set3E => Sys2Proof.Machine.execSet3E s
  | .set3H => Sys2Proof.Machine.execSet3H s
  | .set3L => Sys2Proof.Machine.execSet3L s
  | .set3AtHL => Sys2Proof.Machine.execSet3AtHL s
  | .set3A => Sys2Proof.Machine.execSet3A s
  | .set4B => Sys2Proof.Machine.execSet4B s
  | .set4C => Sys2Proof.Machine.execSet4C s
  | .set4D => Sys2Proof.Machine.execSet4D s
  | .set4E => Sys2Proof.Machine.execSet4E s
  | .set4H => Sys2Proof.Machine.execSet4H s
  | .set4L => Sys2Proof.Machine.execSet4L s
  | .set4AtHL => Sys2Proof.Machine.execSet4AtHL s
  | .set4A => Sys2Proof.Machine.execSet4A s
  | .set5B => Sys2Proof.Machine.execSet5B s
  | .set5C => Sys2Proof.Machine.execSet5C s
  | .set5D => Sys2Proof.Machine.execSet5D s
  | .set5E => Sys2Proof.Machine.execSet5E s
  | .set5H => Sys2Proof.Machine.execSet5H s
  | .set5L => Sys2Proof.Machine.execSet5L s
  | .set5AtHL => Sys2Proof.Machine.execSet5AtHL s
  | .set5A => Sys2Proof.Machine.execSet5A s
  | .set6B => Sys2Proof.Machine.execSet6B s
  | .set6C => Sys2Proof.Machine.execSet6C s
  | .set6D => Sys2Proof.Machine.execSet6D s
  | .set6E => Sys2Proof.Machine.execSet6E s
  | .set6H => Sys2Proof.Machine.execSet6H s
  | .set6L => Sys2Proof.Machine.execSet6L s
  | .set6AtHL => Sys2Proof.Machine.execSet6AtHL s
  | .set6A => Sys2Proof.Machine.execSet6A s
  | .set7B => Sys2Proof.Machine.execSet7B s
  | .set7C => Sys2Proof.Machine.execSet7C s
  | .set7D => Sys2Proof.Machine.execSet7D s
  | .set7E => Sys2Proof.Machine.execSet7E s
  | .set7H => Sys2Proof.Machine.execSet7H s
  | .set7L => Sys2Proof.Machine.execSet7L s
  | .set7AtHL => Sys2Proof.Machine.execSet7AtHL s
  | .set7A => Sys2Proof.Machine.execSet7A s

end Sys2Proof.Machine
end

