-- ==== Sys2Proof/Machine/Iterate.lean ====
section
/-! DEFINITION. One CPU iteration (spec/60_exceptions.md R316) after the ticks before it; and placing bytes
where a fetch reads them. -/

namespace Sys2Proof.Machine

/-- Fetches, decodes and executes one instruction (R316, R318). -/
def State.fetchAndRun (s : State) : Result :=
  match decode s.fetchInstr.1 with
  | .ok (i, _) => exec i s.fetchInstr.2
  | .error (.truncated op) => .refused (.undecodable op)
  | .error .noByte => .refused (.undecodable 0)

/-- The CPU iteration after a poll that dispatched nothing: an idle M-cycle while halted or stopped,
else one instruction (R316). -/
def State.runOrIdle (s : State) : Result :=
  if s.cpu.halted || s.cpu.stopped then finish s else s.fetchAndRun

/-- The poll and the rest of the iteration (R310, R316), in the M-cycle the CPU is in. -/
def State.iterate (s : State) : Result :=
  let s1 := s.withCpu s.cpu.countEi
  match s1.polledSource with
  | none => s1.runOrIdle
  | some i =>
    let s2 := s1.wake
    if s2.cpu.ime then dispatch s2 i else s2.runOrIdle

/-- The bytes of a table row's instruction, zeros up to the longest instruction's length. -/
def fetchBytes (nbits w : Nat) : List Byte := (tableBytes nbits w ++ [0, 0, 0]).take 3

/-- Stores one byte where a fetch at `a` reads it, no blocking rule applied (log 12). -/
def State.placeByte (s : State) (a : Word) (v : Byte) : State :=
  match s.route a with
  | .rom => s.withMem (s.mem.write a.toNat v)
  | .vram k | .wram k | .oam k | .hram k => s.withMem (s.mem.write k v)
  | .ie => s.withIrq { s.irq with ie := v }
  | .cartRam | .gap | .io => s

/-- Stores bytes at rising addresses. -/
def State.placeBytes : List Byte → Word → State → State
  | [], _, s => s
  | v :: vs, a, s => State.placeBytes vs (a + 1) (s.placeByte a v)

end Sys2Proof.Machine
end

