-- ==== Sys2Proof/Machine/Step.lean ====
section
/-! DEFINITION. One step: one CPU iteration (spec/60_exceptions.md R316), with every tick it takes; and
placing an instruction where the next step fetches it. -/

namespace Sys2Proof.Machine

/-- One step of the machine: the ticks until the CPU may act (R349, R375), then one CPU iteration. -/
def step (s : State) : Host.Outcome State Fault Refusal := s.startTick.iterate

/-- The state with a table row's instruction where `step` fetches its next one: in memory at PC, with
the CPU awake, no HALT-bug latch and no deliverable interrupt (log 12). -/
def State.withFetchWord (s : State) (nbits w : Nat) : State :=
  let s1 := State.placeBytes (fetchBytes nbits w) s.cpu.pc s
  (s1.withCpu { s1.cpu with halted := false, stopped := false, haltBug := false }).withIrq
    { s1.irq with flags := s1.irq.flags &&& ~~~(s1.irq.ie.extractLsb' 0 5) }

end Sys2Proof.Machine
end

