-- ==== Sys2Proof/Machine/Cycle.lean ====
section
/-! DEFINITION. The machine one tick at a time (spec/60_exceptions.md R370, R373): the in-flight state of
spec/10_state.md R32, what the CPU does in one M-cycle, and `tick`. The CPU works from the opcode's fields
(R124, R126) and the M-cycle lists of the instruction rules; that a step is its ticks is a statement about
the two readings. -/

namespace Sys2Proof.Machine

/-! ## What is in flight between two ticks (R32) -/

/-- What a read-modify-write does to the byte it read (R206, R208, R230, R254, R256). -/
inductive Modify where
  | inc
  | dec
  | rotate (op : RotOp)
  | reset (b : BitIdx)
  | set (b : BitIdx)
  deriving DecidableEq, Repr

/-- What the two bytes of a pop are for: a pair (R174), or PC, with IME set for RETI (R278 to R280). -/
inductive PopUse where
  | pair (p : StackPair)
  | return (enable : Bool)
  deriving DecidableEq, Repr

/-- One M-cycle still to come after the fetches, with the temporaries it needs (R32). -/
inductive MCycle where
  /-- `Idle()`. -/
  | idle
  /-- `Idle()`; PC is `target`. -/
  | jump (target : Word)
  /-- `Idle()`; `rp[p]` is `w` and the flags are `f`. -/
  | setPair (p : Pair) (w : Word) (f : Flags)
  /-- `Idle()`; PC is `target`, and IME is set if `enable`. -/
  | returnTo (target : Word) (enable : Bool)
  /-- `Idle()`; IME and IF[i] are cleared and PC is source `i`'s address (R314). -/
  | enter (i : Fin 5)
  /-- A read of `a` into a register. -/
  | load (dst : Reg8) (a : Word)
  /-- A read at HL into A; HL is stepped. -/
  | loadStepping (step : Word)
  /-- A read at HL for an operation on A. -/
  | alu (op : AluOp)
  /-- A read at HL for BIT. -/
  | testBit (b : BitIdx)
  /-- A read at HL, written back in the M-cycle after it. -/
  | modify (m : Modify)
  /-- The low byte of a pop. -/
  | popLow (use : PopUse)
  /-- The high byte of a pop whose low byte was `lo`. -/
  | popHigh (use : PopUse) (lo : Byte)
  /-- A write of `v` to `a`. -/
  | store (a : Word) (v : Byte)
  /-- A write of A at HL; HL is stepped. -/
  | storeStepping (step : Word)
  /-- The write back of `v` at HL; the flags are `f`. -/
  | writeBack (v : Byte) (f : Flags)
  /-- The first byte of a push. -/
  | pushHigh (v : Byte)
  /-- The second byte of a push, after which PC is `target` if one is given. -/
  | pushLow (v : Byte) (target : Option Word)
  deriving DecidableEq, Repr

/-- Where the CPU is in its activity between two ticks (R32). -/
inductive Flight where
  /-- At an instruction boundary, or halted or stopped: the next tick polls. -/
  | boundary
  /-- These bytes of an instruction are fetched, and more are to come. -/
  | fetching (bytes : List Byte)
  /-- These M-cycles of an instruction or dispatch are still to come. -/
  | running (work : List MCycle)
  /-- The idle M-cycle of leaving STOPPED has passed, the poll having found `i` (R310). -/
  | waking (i : Fin 5)
  deriving DecidableEq, Repr

/-- The machine between two ticks: its state and what the CPU has in flight. -/
structure TickState where
  state  : State
  flight : Flight
  deriving DecidableEq, Repr

/-- In flight after an M-cycle that leaves this work. -/
def Flight.after : List MCycle → Flight
  | [] => .boundary
  | m :: work => .running (m :: work)

/-! ## One M-cycle -/

/-- The byte written back, and the flags. -/
def Modify.apply : Modify → Byte → Flags → Byte × Flags
  | .inc, v, f => inc8 v f
  | .dec, v, f => dec8 v f
  | .rotate op, v, f => rotateCB op v f
  | .reset b, v, f => (resetBit b v, f)
  | .set b, v, f => (setBit b v, f)

/-- The CPU's part of one M-cycle, and the M-cycles that what it read adds. -/
def State.perform (s : State) : MCycle → State × List MCycle
  | .idle => (s, [])
  | .jump target => (s.jump target, [])
  | .setPair p w f => ((s.setPair p w).setFlags f, [])
  | .returnTo target enable =>
    (s.withCpu { s.cpu with pc := target, ime := s.cpu.ime || enable }, [])
  | .enter i => ((s.withCpu { s.cpu with ime := false, pc := serviceAddress i }).clear i, [])
  | .load dst a => (s.setReg dst (s.busRead a), [])
  | .loadStepping step =>
    ((s.setReg .a (s.busRead s.cpu.hl)).setPair .hl (s.cpu.hl + step), [])
  | .alu op => (s.aluA op (s.busRead s.cpu.hl), [])
  | .testBit b => (s.setFlags (bitFlags b (s.busRead s.cpu.hl) s.cpu.flags), [])
  | .modify m =>
    let res := m.apply (s.busRead s.cpu.hl) s.cpu.flags
    (s, [.writeBack res.1 res.2])
  | .popLow use => (s.popByte.2, [.popHigh use s.popByte.1])
  | .popHigh (.pair p) lo =>
    let w := joinBytes s.popByte.1 lo
    (s.popByte.2.withCpu (s.popByte.2.cpu.setStackPair p w), [])
  | .popHigh (.return enable) lo => (s.popByte.2, [.returnTo (joinBytes s.popByte.1 lo) enable])
  | .store a v => (s.busWrite a v, [])
  | .storeStepping step => ((s.busWrite s.cpu.hl s.cpu.a).setPair .hl (s.cpu.hl + step), [])
  | .writeBack v f => ((s.busWrite s.cpu.hl v).setFlags f, [])
  | .pushHigh v => (s.pushByte v, [])
  | .pushLow v none => (s.pushByte v, [])
  | .pushLow v (some target) => ((s.pushByte v).jump target, [])

/-! ## From the last fetched byte to the M-cycles after it

Each function gives the state after the effects in the M-cycle of the last fetched byte, and the M-cycles
still to come. -/

/-- An instruction that ends in the M-cycle of its last fetched byte. -/
def ends (s : State) : State × List MCycle := (s, [])

/-- A push of `w` after an idle M-cycle, then a jump if there is a target. -/
def pushWork (w : Word) (target : Option Word) : List MCycle :=
  [.idle, .pushHigh (highByte w), .pushLow (lowByte w) target]

/-- `INC` and `DEC` of a register, rotates and shifts. -/
def State.modifyReg (s : State) (m : Modify) (r : Reg8) : State :=
  let res := m.apply (s.cpu.reg r) s.cpu.flags
  (s.setReg r res.1).setFlags res.2

/-- The quadrant `x = 0` of R124; `n` is byte 1 and `nn` bytes 2 and 1. -/
def State.startX0 (s : State) (op n : Byte) (nn : Word) : State × List MCycle :=
  let y := fieldY op
  let p := pairOf (fieldP op)
  let relative := s.cpu.pc + n.signExtend 16
  match fieldZ op with
  | 0 =>
    match y with
    | 0 => ends s
    | 1 => (s, [.store nn (lowByte s.cpu.sp), .store (nn + 1) (highByte s.cpu.sp)])
    | 2 => ends (s.withCpu { s.cpu with stopped := true })
    | 3 => (s, [.jump relative])
    | _ => if s.cpu.flags.cond (condOf (y - 4)) then (s, [.jump relative]) else ends s
  | 1 =>
    if fieldQ op = 0 then ends (s.setPair p nn)
    else
      let res := addHL s.cpu.hl (s.cpu.pair p) s.cpu.flags
      (s, [.setPair .hl res.1 res.2])
  | 2 =>
    match y with
    | 0 => (s, [.store s.cpu.bc s.cpu.a])
    | 1 => (s, [.load .a s.cpu.bc])
    | 2 => (s, [.store s.cpu.de s.cpu.a])
    | 3 => (s, [.load .a s.cpu.de])
    | 4 => (s, [.storeStepping 1])
    | 5 => (s, [.loadStepping 1])
    | 6 => (s, [.storeStepping (-1)])
    | _ => (s, [.loadStepping (-1)])
  | 3 =>
    let step : Word := if fieldQ op = 0 then 1 else -1
    (s, [.setPair p (s.cpu.pair p + step) s.cpu.flags])
  | 4 =>
    match operand8 y with
    | .reg r => ends (s.modifyReg .inc r)
    | .mem => (s, [.modify .inc])
  | 5 =>
    match operand8 y with
    | .reg r => ends (s.modifyReg .dec r)
    | .mem => (s, [.modify .dec])
  | 6 =>
    match operand8 y with
    | .reg r => ends (s.setReg r n)
    | .mem => (s, [.store s.cpu.hl n])
  | _ =>
    match y with
    | 0 | 1 | 2 | 3 => ends (s.setAF (rotateA (rotOpOf y) s.cpu.a s.cpu.flags))
    | 4 => ends (s.setAF (daa s.cpu.a s.cpu.flags))
    | 5 => ends (s.setAF (cpl s.cpu.a s.cpu.flags))
    | 6 => ends (s.setFlags (scf s.cpu.flags))
    | _ => ends (s.setFlags (ccf s.cpu.flags))

/-- The quadrant `x = 1`: loads between registers and the byte at HL, and HALT. -/
def State.startX1 (s : State) (op : Byte) : State × List MCycle :=
  match operand8 (fieldY op), operand8 (fieldZ op) with
  | .reg dst, .reg src => ends (s.setReg dst (s.cpu.reg src))
  | .reg dst, .mem => (s, [.load dst s.cpu.hl])
  | .mem, .reg src => (s, [.store s.cpu.hl (s.cpu.reg src)])
  | .mem, .mem => ends (s.withCpu (s.cpu.halt s.irq))

/-- The quadrant `x = 2`: the operations on A. -/
def State.startX2 (s : State) (op : Byte) : State × List MCycle :=
  match operand8 (fieldZ op) with
  | .reg r => ends (s.aluA (aluOpOf (fieldY op)) (s.cpu.reg r))
  | .mem => (s, [.alu (aluOpOf (fieldY op))])

/-- The prefixed table, by byte 1 (R126, R230). -/
def State.startExtended (s : State) (op2 : Byte) : State × List MCycle :=
  let b := bitIdxOf (fieldY op2)
  match fieldX op2, operand8 (fieldZ op2) with
  | 0, .reg r => ends (s.modifyReg (.rotate (rotOpOf (fieldY op2))) r)
  | 0, .mem => (s, [.modify (.rotate (rotOpOf (fieldY op2)))])
  | 1, .reg r => ends (s.setFlags (bitFlags b (s.cpu.reg r) s.cpu.flags))
  | 1, .mem => (s, [.testBit b])
  | 2, .reg r => ends (s.modifyReg (.reset b) r)
  | 2, .mem => (s, [.modify (.reset b)])
  | _, .reg r => ends (s.modifyReg (.set b) r)
  | _, .mem => (s, [.modify (.set b)])

/-- The quadrant `x = 3`, but for the unassigned opcodes. -/
def State.startX3 (s : State) (op n : Byte) (nn : Word) : State × List MCycle :=
  let y := fieldY op
  let cond := s.cpu.flags.cond (condOf y)
  match fieldZ op with
  | 0 =>
    match y with
    | 4 => (s, [.store (highPage n) s.cpu.a])
    | 5 =>
      let res := addSPOffset s.cpu.sp n
      (s, [.idle, .setPair .sp res.1 res.2])
    | 6 => (s, [.load .a (highPage n)])
    | 7 =>
      let res := addSPOffset s.cpu.sp n
      (s, [.setPair .hl res.1 res.2])
    | _ => (s, if cond then [.idle, .popLow (.return false)] else [.idle])
  | 1 =>
    match y with
    | 1 => (s, [.popLow (.return false)])
    | 3 => (s, [.popLow (.return true)])
    | 5 => ends (s.jump s.cpu.hl)
    | 7 => (s, [.setPair .sp s.cpu.hl s.cpu.flags])
    | _ => (s, [.popLow (.pair (stackPairOf (fieldP op)))])
  | 2 =>
    match y with
    | 4 => (s, [.store (highPage s.cpu.c) s.cpu.a])
    | 5 => (s, [.store nn s.cpu.a])
    | 6 => (s, [.load .a (highPage s.cpu.c)])
    | 7 => (s, [.load .a nn])
    | _ => (s, if cond then [.jump nn] else [])
  | 3 =>
    match y with
    | 0 => (s, [.jump nn])
    | 1 => s.startExtended n
    | 6 => ends (s.withCpu { s.cpu with ime := false, eiCounter := 0 })
    | _ => ends (s.withCpu { s.cpu with eiCounter := 2 })
  | 4 => (s, if cond then pushWork s.cpu.pc (some nn) else [])
  | 5 =>
    if fieldQ op = 0 then (s, pushWork (s.cpu.stackPair (stackPairOf (fieldP op))) none)
    else (s, pushWork s.cpu.pc (some nn))
  | 6 => ends (s.aluA (aluOpOf y) n)
  | _ => (s, pushWork s.cpu.pc (some (rstAddress (rstTargetOf y))))

/-- The start of an instruction from its opcode, byte 1 as `n`, and bytes 2 and 1 as `nn` (R121, R124). -/
def State.startFields (s : State) (op n : Byte) (nn : Word) : State × List MCycle :=
  match fieldX op with
  | 0 => s.startX0 op n nn
  | 1 => s.startX1 op
  | 2 => s.startX2 op
  | _ => s.startX3 op n nn

/-- The start of the instruction whose bytes these are. -/
def State.start (s : State) (bytes : List Byte) : State × List MCycle :=
  let n := bytes.getD 1 0
  s.startFields (bytes.getD 0 0) n (joinBytes (bytes.getD 2 0) n)

/-- The unassigned primary opcodes (R131). -/
def unassignedOpcodes : List Byte :=
  [0xD3, 0xDB, 0xDD, 0xE3, 0xE4, 0xEB, 0xEC, 0xED, 0xF4, 0xFC, 0xFD]

/-! ## The CPU's part of one tick (R316, R370) -/

/-- What a tick answers. -/
abbrev TickResult := Host.Outcome TickState Fault Refusal

/-- After a fetch: the next fetch if bytes are missing, else the instruction starts. -/
def State.afterFetch (s : State) (bytes : List Byte) : TickResult :=
  let op := bytes.getD 0 0
  if bytes.length ≤ operandCount op then .next ⟨s, .fetching bytes⟩
  else if op ∈ unassignedOpcodes then
    match s.params.undefinedPolicy with
    | .nop => .next ⟨s, .boundary⟩
    | .fault => .fault (.fatalDecode op s)
  else
    let r := s.start bytes
    .next ⟨r.1, .after r.2⟩

/-- The tick of an awake CPU's opcode fetch, or of an idle one (R316). -/
def State.fetchOrIdle (s : State) : TickResult :=
  if s.cpu.halted || s.cpu.stopped then .next ⟨s, .boundary⟩
  else s.opcodeFetch.2.afterFetch [s.opcodeFetch.1]

/-- After the wake-up: the first M-cycle of a dispatch, or of an instruction (R310, R314). -/
def State.afterPoll (s : State) (i : Fin 5) : TickResult :=
  if s.cpu.ime then .next ⟨s, .running (pushWork s.cpu.pc none ++ [.enter i])⟩
  else s.fetchOrIdle

/-- The CPU's part of one tick, up to its next suspension point (R370). -/
def State.cpuPart (s : State) : Flight → TickResult
  | .boundary =>
    let s1 := s.withCpu s.cpu.countEi
    match s1.polledSource with
    | none => s1.fetchOrIdle
    | some i =>
      let s2 := s1.withCpu { s1.cpu with halted := false, stopped := false }
      if s1.cpu.stopped then .next ⟨s2, .waking i⟩ else s2.afterPoll i
  | .waking i => s.afterPoll i
  | .fetching bytes => s.fetch8.2.afterFetch (bytes ++ [s.fetch8.1])
  | .running [] => .next ⟨s, .boundary⟩
  | .running (m :: work) =>
    let r := s.perform m
    .next ⟨r.1, .after (r.2 ++ work)⟩

/-- `Tick()` (R370), the host's one step (R373): the host's events that are due, the CPU's part unless
general-purpose HDMA freezes it (R349), then the other agents in their order. -/
def tick (u : TickState) : TickResult :=
  let s := u.state.applyInputs
  if s.hdmaHaltsCpu then .next ⟨s.endTick, u.flight⟩
  else
    match s.cpuPart u.flight with
    | .next v => .next ⟨v.state.endTick, v.flight⟩
    | .fault f => .fault f
    | .refused r => .refused r

/-- Right after reset the CPU is at an instruction boundary (R32, R68). -/
def TickState.reset : TickState := ⟨State.reset, .boundary⟩

end Sys2Proof.Machine
end

