-- ==== Sys2Proof/Safety.lean ====
section
/-! DEFINITION. The terms the statements use: a safe run, the machine's invariants, what an instruction
form leaves unchanged (its frame), and the shape of a statement about one form. -/

namespace Sys2Proof.Machine

/-! ## Safe runs -/

/-- The machine steps `n` times from `s` and arrives in `t`. -/
inductive Reaches : Nat → State → State → Prop where
  | refl (s : State) : Reaches 0 s s
  | tail {n : Nat} {s t u : State} : Reaches n s t → step t = .next u → Reaches (n + 1) s u

/-- A safe run from `s`: no reachable state stops. The machine of the spec has no other bad event
(R300): no access fails (R100) and no instruction traps. -/
def SafeFrom (s : State) : Prop := ∀ n t, Reaches n s t → ∃ u, step t = .next u

/-! ## A CPU iteration, tick by tick -/

/-- Running `tick` from `u` to the end of the CPU's iteration answers `r`: the ticks that general-purpose
HDMA freezes (R349) and those that leave something in flight (R32) are passed; the first other tick ends the
iteration. -/
inductive TicksTo : TickState → Result → Prop where
  | frozen {u v : TickState} {r : Result} : u.state.hdmaHaltsCpu = true → tick u = .next v →
      TicksTo v r → TicksTo u r
  | more {u v : TickState} {r : Result} : u.state.hdmaHaltsCpu = false → tick u = .next v →
      v.flight ≠ .boundary → TicksTo v r → TicksTo u r
  | last {u v : TickState} : u.state.hdmaHaltsCpu = false → tick u = .next v →
      v.flight = .boundary → TicksTo u (.next v.state)
  | stops {u : TickState} {f : Fault} : tick u = .fault f → TicksTo u (.fault f)

/-! ## What an instruction leaves unchanged -/

/-- The registers that no device and no instruction's own effect changes, only a store to them (R66,
R35) or the construction (R5): plain storage, masks, selects and enables. -/
structure Settings where
  params     : Params
  ie         : Byte
  tma        : Byte
  tac        : BitVec 3
  dmaPage    : Byte
  hdmaMode   : HdmaMode
  lcdc       : Byte
  statEn     : BitVec 4
  scy        : Byte
  scx        : Byte
  wy         : Byte
  wx         : Byte
  lyc        : Byte
  bgp        : Byte
  obp0       : Byte
  obp1       : Byte
  vbk        : BitVec 1
  svbk       : BitVec 3
  bootActive : Bool
  joySelect  : BitVec 2
  sb         : Byte
  sc         : Byte
  deriving DecidableEq, Repr

/-- The settings of a state. -/
def State.settings (s : State) : Settings :=
  { params := s.params, ie := s.irq.ie, tma := s.timer.tma, tac := s.timer.tac
    dmaPage := s.dma.page, hdmaMode := s.hdma.mode
    lcdc := s.ppu.lcdc, statEn := s.ppu.statEn, scy := s.ppu.scy, scx := s.ppu.scx
    wy := s.ppu.wy, wx := s.ppu.wx, lyc := s.ppu.lyc
    bgp := s.ppu.bgp, obp0 := s.ppu.obp0, obp1 := s.ppu.obp1
    vbk := s.io.vbk, svbk := s.io.svbk, bootActive := s.io.bootActive
    joySelect := s.io.joySelect, sb := s.io.sb, sc := s.io.sc }

/-- A cell of OAM (R55). -/
def IsOamCell (k : Nat) : Prop := 0xFE00 ≤ k ∧ k < 0xFEA0

/-- A cell of video memory, in either bank (R56, log 22). -/
def IsVramCell (k : Nat) : Prop := 0x8000 ≤ k % 0x10000 ∧ k % 0x10000 < 0xA000

/-- The cells a transfer in progress may write (R342, R347): OAM while OAM DMA is not stopped, video
memory while HDMA is not stopped. -/
def State.EngineCell (s : State) (k : Nat) : Prop :=
  (s.dma.state ≠ .stopped ∧ IsOamCell k)
  ∨ (s.params.enhanced = true ∧ s.hdma.state ≠ .stopped ∧ IsVramCell k)

/-- No transfer can freeze the CPU unless a store starts one: a base machine, or an HDMA engine that is
stopped or HBlank-gated (R349). -/
def State.NeverFreezes (s : State) : Prop :=
  s.params.enhanced = false ∨ s.hdma.state = .stopped ∨ s.hdma.mode = .hblank

/-- The CPU's registers that are neither general registers nor flags nor SP: PC, IME, the EI counter,
HALTED, STOPPED and the HALT-bug latch. -/
def Cpu.control (r : Cpu) : Word × Bool × Nat × Bool × Bool × Bool :=
  (r.pc, r.ime, r.eiCounter, r.halted, r.stopped, r.haltBug)

/-- The frame of a form that stores nothing: every setting and every byte of memory is as before, but
for bytes a transfer already in progress copies; and no pending request is lost (R303). -/
def State.StoresNothing (s t : State) : Prop :=
  t.settings = s.settings
  ∧ (∀ k, ¬ s.EngineCell k → t.mem.read k = s.mem.read k)
  ∧ ∀ i, s.irq.flags.getLsbD i = true → t.irq.flags.getLsbD i = true

/-- The cells transfers may write during an instruction that stores: those of the transfers in
progress; and OAM also while HDMA is not stopped, since an OAM DMA that the instruction's own store
starts can run while HDMA freezes the CPU between two stores (R349). -/
def State.MayCopyTo (s : State) (k : Nat) : Prop :=
  s.EngineCell k ∨ (IsOamCell k ∧ s.params.enhanced = true ∧ s.hdma.state ≠ .stopped)

/-- The frame of a form that stores bytes: `ws` lists for each store the state of its M-cycle and the
address. Every other byte of memory is as before, but for bytes a transfer already in progress
copies; and when no store goes to a register, every setting is as before and no pending request is
lost. -/
def State.StoresOnly (s t : State) (ws : List (State × Word)) : Prop :=
  (∀ k, ¬ s.MayCopyTo k → (∀ w ∈ ws, w.1.writtenCell w.2 ≠ some k) → t.mem.read k = s.mem.read k)
  ∧ ((∀ w ∈ ws, w.1.route w.2 ≠ .io ∧ w.1.route w.2 ≠ .ie) →
      t.settings = s.settings
      ∧ ∀ i, s.irq.flags.getLsbD i = true → t.irq.flags.getLsbD i = true)

/-- The byte stored: after a CPU write of `v` to `a` in `u`, the cell it reaches, if it reaches one,
holds `v` in `t`, unless a transfer in progress since `s` overwrote it. -/
def State.Stored (s u : State) (a : Word) (v : Byte) (t : State) : Prop :=
  s.mem.wf → ∀ k, u.writtenCell a = some k → ¬ s.MayCopyTo k → t.mem.read k = v

/-- One store of `v` to `a` in the M-cycle of `u` ends the instruction: the bus takes the byte, whatever
`a` reaches, and the devices step; with the frame this gives. -/
def State.StoresByte (s u : State) (a : Word) (v : Byte) (t : State) : Prop :=
  t = ((u.busWrite a v).withCpu t.cpu).endTick
  ∧ s.StoresOnly t [(u, a)] ∧ s.Stored u a v t

/-- Two stores end the instruction, of `v` to `a` in the M-cycle of `u` and of `w` to `b` in the next;
with the frame this gives. Where both reach one cell, the second stands. -/
def State.StoresTwo (s u : State) (a : Word) (v : Byte) (b : Word) (w : Byte) (t : State) : Prop :=
  let u2 := (u.busWrite a v).nextCycle
  t = ((u2.busWrite b w).withCpu t.cpu).endTick
  ∧ s.StoresOnly t [(u, a), (u2, b)] ∧ s.Stored u2 b w t
  ∧ (s.mem.wf → ∀ k, u.writtenCell a = some k → u2.writtenCell b ≠ some k → ¬ s.MayCopyTo k →
      t.mem.read k = v)

/-- The two stores of `Push16(w)` (R10), the first in the M-cycle of `u`: the high byte below the old
SP, then the low byte below that. -/
def State.Pushes (s u : State) (w : Word) (t : State) : Prop :=
  s.StoresTwo u (s.cpu.sp - 1) (highByte w) (s.cpu.sp - 2) (lowByte w) t

end Sys2Proof.Machine

namespace Sys2Proof

/-! ## Codes, conditions and lengths in M-cycles -/

/-- The 3-bit code of a register (R21, R122). -/
def Reg8.code : Reg8 → BitVec 3
  | .b => 0
  | .c => 1
  | .d => 2
  | .e => 3
  | .h => 4
  | .l => 5
  | .a => 7

/-- The 2-bit code of a pair in `rp` (R22, R122). -/
def Pair.code : Pair → BitVec 2
  | .bc => 0
  | .de => 1
  | .hl => 2
  | .sp => 3

/-- The 2-bit code of a pair in `rp2` (R22, R122). -/
def StackPair.code : StackPair → BitVec 2
  | .bc => 0
  | .de => 1
  | .hl => 2
  | .af => 3

/-- The 2-bit code of a condition (R122, R270). -/
def Cond.code : Cond → BitVec 2
  | .nz => 0
  | .z => 1
  | .nc => 2
  | .c => 3

/-- The 3-bit code of an accumulator operation (R122, R180). -/
def AluOp.code : AluOp → BitVec 3
  | .add => 0
  | .adc => 1
  | .sub => 2
  | .sbc => 3
  | .and => 4
  | .xor => 5
  | .or => 6
  | .cp => 7

/-- The 3-bit code of a rotate or shift (R122, R230). -/
def RotOp.code : RotOp → BitVec 3
  | .rlc => 0
  | .rrc => 1
  | .rl => 2
  | .rr => 3
  | .sla => 4
  | .sra => 5
  | .swap => 6
  | .srl => 7

/-- The 3-bit code of a bit index (R122). -/
def BitIdx.code (b : BitIdx) : BitVec 3 := BitVec.ofNat 3 (Machine.bitNumber b)

/-- The 3-bit code `y` of a restart target, `t / 8` (R122, R281). -/
def RstTarget.code (t : RstTarget) : BitVec 3 := (Machine.rstAddress t).extractLsb' 3 3

/-- An opcode byte from its fields `x`, `y`, `z` (R121). -/
def opcode (x : BitVec 2) (y z : BitVec 3) : Byte := x ++ y ++ z

/-- An opcode byte from its fields `x`, `p`, `q`, `z` (R121). -/
def opcodeOfPair (x p : BitVec 2) (q : BitVec 1) (z : BitVec 3) : Byte := x ++ p ++ q ++ z

/-- The condition of a conditional control transfer (R270). -/
def Instr.condition : Instr → Option Cond
  | .jpNZImm16 _ | .jrNZOff _ | .callNZImm16 _ | .retNZ => some .nz
  | .jpZImm16 _ | .jrZOff _ | .callZImm16 _ | .retZ => some .z
  | .jpNCImm16 _ | .jrNCOff _ | .callNCImm16 _ | .retNC => some .nc
  | .jpCImm16 _ | .jrCOff _ | .callCImm16 _ | .retC => some .c
  | _ => none

/-- The M-cycles `i` takes when it starts with flags `f` (R425). -/
def Instr.mCyclesOn (i : Instr) (f : Machine.Flags) : Nat :=
  match i.condition with
  | some cc => if f.cond cc then i.mCycles.1 else i.mCycles.2
  | none => i.mCycles.1

end Sys2Proof

namespace Sys2Proof.Machine

/-! ## The shape of a statement about one instruction form -/

/-- What a rule says of the form `i` in state `s`, the M-cycle of its last fetched byte: `i` is encoded
as `bytes`, it completes, it takes `m` M-cycles in all (4 clock cycles each, R6) where no transfer in
progress can freeze the CPU (R349), and its next state meets `post`. -/
def RunsAs (i : Instr) (bytes : List Byte) (m : Nat) (s : State) (post : State → Prop) : Prop :=
  encode i = bytes
  ∧ ∃ t, exec i s = .next t
      ∧ (s.NeverFreezes → t.elapsedCycles + 4 * bytes.length = s.elapsedCycles + 4 * (m + 1))
      ∧ post t

/-! ## What the rules say of a result, as relations between operands and result

Sums and differences are over the natural numbers or the integers (R8); `g` are the flags after. -/

/-- `Add8(a, v, c)` (R180): HF is the carry out of bit 3, CF the carry out of bit 7. -/
def AddRule (a v : Byte) (c : Bool) (res : Byte) (g : Flags) : Prop :=
  res.toNat = (a.toNat + v.toNat + c.toNat) % 256
  ∧ (g.z = true ↔ res = 0) ∧ g.n = false
  ∧ (g.h = true ↔ 0xF < a.toNat % 16 + v.toNat % 16 + c.toNat)
  ∧ (g.c = true ↔ 0xFF < a.toNat + v.toNat + c.toNat)

/-- `Sub8(a, v, c)` (R180): HF is the borrow into bit 4, CF the borrow out of bit 7. -/
def SubRule (a v : Byte) (c : Bool) (res : Byte) (g : Flags) : Prop :=
  res.toNat = (a.toNat + 512 - v.toNat - c.toNat) % 256
  ∧ (g.z = true ↔ res = 0) ∧ g.n = true
  ∧ (g.h = true ↔ a.toNat % 16 < v.toNat % 16 + c.toNat)
  ∧ (g.c = true ↔ a.toNat < v.toNat + c.toNat)

/-- A logic operation (R193, R196, R199): ZF from the result, NF = CF = 0, HF = `h`. -/
def LogicRule (res : Byte) (h : Bool) (g : Flags) : Prop :=
  (g.z = true ↔ res = 0) ∧ g.n = false ∧ g.h = h ∧ g.c = false

/-- `op A,v` (R181 to R204): `res` is the A after. -/
def AluRule (op : AluOp) (a v : Byte) (f : Flags) (res : Byte) (g : Flags) : Prop :=
  match op with
  | .add => AddRule a v false res g
  | .adc => AddRule a v f.c res g
  | .sub => SubRule a v false res g
  | .sbc => SubRule a v f.c res g
  | .and => res = a &&& v ∧ LogicRule res true g
  | .xor => res = a ^^^ v ∧ LogicRule res false g
  | .or => res = a ||| v ∧ LogicRule res false g
  | .cp => res = a ∧ ∃ diff, SubRule a v false diff g

/-- INC of a byte (R205): CF unchanged. -/
def IncRule (old : Byte) (f : Flags) (res : Byte) (g : Flags) : Prop :=
  res.toNat = (old.toNat + 1) % 256
  ∧ (g.z = true ↔ res = 0) ∧ g.n = false ∧ (g.h = true ↔ old.toNat % 16 = 0xF) ∧ g.c = f.c

/-- DEC of a byte (R207): CF unchanged. -/
def DecRule (old : Byte) (f : Flags) (res : Byte) (g : Flags) : Prop :=
  res.toNat = (old.toNat + 255) % 256
  ∧ (g.z = true ↔ res = 0) ∧ g.n = true ∧ (g.h = true ↔ old.toNat % 16 = 0) ∧ g.c = f.c

/-- DAA (R209), `low` and `high` the parts of the adjustment. -/
def DaaRule (a : Byte) (f : Flags) (res : Byte) (g : Flags) : Prop :=
  ∃ low high : Nat,
    (low = 0x06 ∨ low = 0) ∧ (low = 0x06 ↔ f.h = true ∨ (f.n = false ∧ 0x9 < a.toNat % 16))
    ∧ (high = 0x60 ∨ high = 0) ∧ (high = 0x60 ↔ f.c = true ∨ (f.n = false ∧ 0x99 < a.toNat))
    ∧ res.toNat = (if f.n then a.toNat + 256 - (low + high) else a.toNat + (low + high)) % 256
    ∧ (g.z = true ↔ res = 0) ∧ g.n = f.n ∧ g.h = false ∧ (g.c = true ↔ high = 0x60)

/-- `ADD HL,rr` (R220): carries out of bits 11 and 15, ZF unchanged. -/
def AddHLRule (hl v : Word) (f : Flags) (res : Word) (g : Flags) : Prop :=
  res.toNat = (hl.toNat + v.toNat) % 65536
  ∧ g.z = f.z ∧ g.n = false
  ∧ (g.h = true ↔ 0xFFF < hl.toNat % 4096 + v.toNat % 4096)
  ∧ (g.c = true ↔ 0xFFFF < hl.toNat + v.toNat)

/-- `SP + e` (R175, R223): `e` signed in the sum, raw in the carries out of bits 3 and 7. -/
def OffsetRule (sp : Word) (e : Byte) (res : Word) (g : Flags) : Prop :=
  (res.toNat : Int) = ((sp.toNat : Int) + e.toInt) % 65536
  ∧ g.z = false ∧ g.n = false
  ∧ (g.h = true ↔ 0xF < sp.toNat % 16 + e.toNat % 16)
  ∧ (g.c = true ↔ 0xFF < sp.toNat % 256 + e.toNat)

/-- Bit `i` of the result of a rotate or shift (R230). -/
def rotatedBit (op : RotOp) (v : Byte) (cf : Bool) (i : Nat) : Bool :=
  match op with
  | .rlc => if i = 0 then v.getLsbD 7 else v.getLsbD (i - 1)
  | .rrc => if i = 7 then v.getLsbD 0 else v.getLsbD (i + 1)
  | .rl => if i = 0 then cf else v.getLsbD (i - 1)
  | .rr => if i = 7 then cf else v.getLsbD (i + 1)
  | .sla => if i = 0 then false else v.getLsbD (i - 1)
  | .sra => if i = 7 then v.getLsbD 7 else v.getLsbD (i + 1)
  | .swap => if i < 4 then v.getLsbD (i + 4) else v.getLsbD (i - 4)
  | .srl => if i = 7 then false else v.getLsbD (i + 1)

/-- The carry of a rotate or shift (R230): the bit shifted out, 0 for SWAP. -/
def rotatedOut (op : RotOp) (v : Byte) : Bool :=
  match op with
  | .rlc | .rl | .sla => v.getLsbD 7
  | .rrc | .rr | .sra | .srl => v.getLsbD 0
  | .swap => false

/-- A rotate or shift (R230); `fromResult` tells the CB forms (ZF from the result) from the accumulator
forms (ZF = 0). -/
def RotateRule (op : RotOp) (fromResult : Bool) (v : Byte) (f : Flags) (res : Byte) (g : Flags) : Prop :=
  (∀ i, i < 8 → res.getLsbD i = rotatedBit op v f.c i)
  ∧ (g.z = true ↔ fromResult = true ∧ res = 0)
  ∧ g.n = false ∧ g.h = false ∧ g.c = rotatedOut op v

/-- BIT (R251): ZF the complement of the bit, CF unchanged. -/
def BitRule (b : BitIdx) (v : Byte) (f : Flags) (g : Flags) : Prop :=
  g.z = !v.getLsbD (bitNumber b) ∧ g.n = false ∧ g.h = true ∧ g.c = f.c

/-- RES (`bit = false`, R253) and SET (`bit = true`, R255): one bit replaced. -/
def PutBitRule (b : BitIdx) (bit : Bool) (v res : Byte) : Prop :=
  ∀ i, i < 8 → res.getLsbD i = if i = bitNumber b then bit else v.getLsbD i

/-! ## Invariants -/

/-- The mode as a function of the scanline, the dot and the latched length (R51, R353). -/
def modeAt (ly dot len3 : Nat) : Mode :=
  if 144 ≤ ly then .vblank
  else if dot < 80 then .oamScan
  else if dot < 80 + len3 then .pixelTransfer
  else .hblank

/-- The PPU's invariant between ticks: the ranges of R48, R52, R53, the mode invariant of R51 and
R351, and the edge detector of R54 and R360. -/
def Ppu.Ok (p : Ppu) : Prop :=
  p.ly.toNat < 154 ∧ p.dot < 456 ∧ p.dot % 4 = 0 ∧ 172 ≤ p.len3 ∧ p.len3 ≤ 369
  ∧ (p.lcdOn = true → p.mode = modeAt p.ly.toNat p.dot p.len3)
  ∧ (p.lcdOn = false → p.mode = .hblank ∧ p.ly = 0 ∧ p.dot = 0)
  ∧ p.statLine = p.statLevel

/-- The timer's invariant: `counter` is a multiple of 4 (R331), `reloadDelay` is 0 or 4 (R41), and TIMA
is 0 while a reload is pending (R333). -/
def Timer.Ok (t : Timer) : Prop :=
  t.counter.toNat % 4 = 0 ∧ (t.reloadDelay = 0 ∨ t.reloadDelay = 4)
  ∧ (t.reloadDelay = 4 → t.tima = 0)

/-- The OAM DMA engine's invariant between ticks: the index's range (R42), below 160 while running
(R341), and no request left over, since the step of the same tick takes it up (R344). -/
def OamDma.Ok (d : OamDma) : Prop :=
  d.index ≤ 160 ∧ (d.state = .running → d.index < 160) ∧ d.state ≠ .requested

/-- The HDMA engine's invariant between ticks: the ranges of R43, bytes left while a transfer is not
stopped (R346), no request left over, and nothing in motion without `ENHANCED`. -/
def Hdma.Ok (h : Hdma) (enhanced : Bool) : Prop :=
  0x8000 ≤ h.dst.toNat ∧ h.dst.toNat < 0xA000
  ∧ h.total ≤ 2048 ∧ h.total % 2 = 0 ∧ h.block ≤ 16 ∧ h.block % 2 = 0
  ∧ (h.state ≠ .stopped → 0 < h.total) ∧ h.state ≠ .requested
  ∧ (enhanced = false → h.state = .stopped)

/-- The CPU's control bits between iterations: the counter's range (R28), and at most one of HALTED,
STOPPED and the HALT-bug latch (R291, R292). -/
def Cpu.Ok (r : Cpu) : Prop :=
  r.eiCounter ≤ 2 ∧ ¬(r.halted = true ∧ r.stopped = true)
  ∧ ¬(r.halted = true ∧ r.haltBug = true) ∧ ¬(r.stopped = true ∧ r.haltBug = true)

/-- The invariant of the machine between two steps. -/
structure State.Inv (s : State) : Prop where
  mem   : s.mem.wf
  ppu   : s.ppu.Ok
  timer : s.timer.Ok
  dma   : s.dma.Ok
  hdma  : s.hdma.Ok s.params.enhanced
  cpu   : s.cpu.Ok

end Sys2Proof.Machine
end

