-- ==== Sys2Proof/Certificates/Slice0/Obligations.lean ====
section
/-! DEFINITION. The statements for the provers, each about the machine of spec/. `RunsAs i bytes m s post`
(Sys2Proof/Safety.lean) says that `i` is encoded as `bytes`, that it completes from every state `s` that
stands in the M-cycle of its last fetched byte with PC past it, that it takes `m` M-cycles in all, and that
its next state meets `post`. Where `post` gives `t.cpu` it gives every CPU register and control bit. -/

section

open Sys2Proof Sys2Proof.Machine

/-! ## Encoding (spec/30_encoding.md) -/

/-- Decoding what the encoder writes gives the instruction back, every operand at every value, and
leaves the bytes behind it (R120, R123, R124, R126). -/
def Obligations.DecodeOfEncode : Prop :=
  ∀ (i : Instr) (rest : List Byte), i.wf = true → decode (encode i ++ rest) = .ok (i, rest)

/-- Every byte string that is long enough starts with exactly one instruction, and the encoder writes
it back (R132: every byte value decodes to something). -/
def Obligations.EveryByteStringIsAnInstruction : Prop :=
  ∀ b0 b1 b2 : Byte, ∃ i rest,
    decode [b0, b1, b2] = .ok (i, rest) ∧ i.wf = true ∧ encode i ++ rest = [b0, b1, b2]

/-- Words written out from R124 and R126, one or more for each family, decode to the instruction they
stand for. -/
def Obligations.SampleWordsDecode : Prop :=
  decode [0b01_000_001] = .ok (.ldBC, [])
  ∧ decode [0b00_111_110, 0x7F] = .ok (.ldAImm 0x7F, [])
  ∧ decode [0b11_100_000, 0x46] = .ok (.ldhAtNA 0x46, [])
  ∧ decode [0b00_10_0_001, 0x34, 0x12] = .ok (.ldHLImm16 0x1234, [])
  ∧ decode [0b11_11_0_101] = .ok (.pushAF, [])
  ∧ decode [0b10_011_100] = .ok (.sbcAH, [])
  ∧ decode [0b11_111_110, 0x3C] = .ok (.cpAImm 0x3C, [])
  ∧ decode [0b00_11_1_001] = .ok (.addHLSP, [])
  ∧ decode [0xCB, 0b00_110_111] = .ok (.swapA, [])
  ∧ decode [0xCB, 0b11_001_011] = .ok (.set1E, [])
  ∧ decode [0b00_100_000, 0xFC] = .ok (.jrNZOff 0xFC, [])
  ∧ decode [0b11_101_111] = .ok (.rst28H, [])
  ∧ decode [0b00_010_000, 0x00] = .ok (.stop 0x00, [])
  ∧ decode [0b11_010_011, 0x00] = .ok (.undefinedD3, [0x00])

/-! ## The step (spec/60_exceptions.md sections 2, 3) -/

/-- When the poll finds no source and the CPU is awake, a step is exec of the instruction that the
fetched bytes decode to, in the state the fetch leaves (R316; that all bytes are fetched before the
instruction acts is log 2). `startTick` moves past the ticks in which
the CPU is frozen; the poll counts the EI counter first. -/
def Obligations.StepRunsTheDecodedInstruction : Prop :=
  ∀ (s : State) (i : Instr) (rest : List Byte),
    let s1 := s.startTick.withCpu s.cpu.countEi
    s1.polledSource = none → s1.cpu.halted = false → s1.cpu.stopped = false →
    decode s1.fetchInstr.1 = .ok (i, rest) →
    step s = exec i s1.fetchInstr.2

/-- The fetch reads the opcode at PC and the bytes after it, one M-cycle each, through the bus; PC ends
past the last byte; an armed HALT-bug latch is consumed and holds PC back by one (R318, R120). -/
def Obligations.FetchReadsTheBytesAtPC : Prop :=
  ∀ s : State,
    let op := s.busRead s.cpu.pc
    let p := if s.cpu.haltBug then s.cpu.pc else s.cpu.pc + 1
    let u := s.nextCycle
    operandCount op ≤ 2
    ∧ (operandCount op = 0 →
        s.fetchInstr = ([op], s.withCpu { s.cpu with pc := p, haltBug := false }))
    ∧ (operandCount op = 1 →
        s.fetchInstr = ([op, u.busRead p], u.withCpu { s.cpu with pc := p + 1, haltBug := false }))
    ∧ (operandCount op = 2 →
        s.fetchInstr = ([op, u.busRead p, u.nextCycle.busRead (p + 1)],
          u.nextCycle.withCpu { s.cpu with pc := p + 2, haltBug := false }))

/-- With the default cartridge (log 6: the ROM-only one, its ROM cells of `State.mem`), an instruction that
lies in its ROM at PC is the one the step runs: all its bytes are fetched before it acts (log 2), PC is past
it, as many M-cycles on as it has further bytes. -/
def Obligations.RomInstructionRuns : Prop :=
  ∀ (s : State) (i : Instr),
    let s1 := s.startTick.withCpu s.cpu.countEi
    i.wf = true → s.io.bootActive = false →
    s.cpu.haltBug = false → s.cpu.halted = false → s.cpu.stopped = false →
    s1.polledSource = none →
    s.cpu.pc.toNat + (encode i).length ≤ 0x8000 →
    (∀ k, k < (encode i).length → s.mem.read (s.cpu.pc.toNat + k) = (encode i).getD k 0) →
    step s = exec i ((State.nextCycle^[(encode i).length - 1] s1).withCpu
      { s1.cpu with pc := s.cpu.pc + BitVec.ofNat 16 (encode i).length })

/-- No step is refused; a step faults only at an unassigned opcode under the policy `fault`, with that
opcode (R132, R296, R305); and under the default policy every run goes on for ever (R100, R300). The policies
and their default are the spec's decision D31; that a host need not call `Stop()` is log 19, and that the
fault ends the run is log 20. -/
def Obligations.OnlyUnassignedOpcodesStop : Prop :=
  (∀ (s : State) r, step s ≠ .refused r)
  ∧ (∀ (s : State) f, step s = .fault f →
      s.params.undefinedPolicy = .fault
      ∧ ∃ op ∈ ([0xD3, 0xDB, 0xDD, 0xE3, 0xE4, 0xEB, 0xEC, 0xED, 0xF4, 0xFC, 0xFD] : List Byte),
          ∃ frozen, f = .fatalDecode op frozen)
  ∧ ∀ s : State, s.params.undefinedPolicy = .nop → SafeFrom s

/-- No step changes a parameter (R5), and the boot overlay, once off, stays off (R59). -/
def Obligations.ParametersNeverChange : Prop :=
  ∀ s t : State, step s = .next t →
    t.params = s.params ∧ (s.io.bootActive = false → t.io.bootActive = false)

/-- While halted or stopped with no deliverable source a step is one idle M-cycle (R316; one CPU iteration a
step is log 1): in the CPU only the EI counter moves; then come the OAM DMA step, the HDMA step, the PPU step
and the timer step, in this order, the audio call where the tick makes it (log 16), and 4 clock cycles (R370);
nothing is stored. -/
def Obligations.IdleWhileHalted : Prop :=
  ∀ s : State,
    let s1 := s.startTick.withCpu s.cpu.countEi
    let d := s1.dmaStep.hdmaStep.ppuStep.timerStep
    (s.cpu.halted = true ∨ s.cpu.stopped = true) → s1.polledSource = none →
    ∃ t, step s = .next t
      ∧ t = (d.withCalls (if s.params.audioStepped then .audioStep d.elapsedCycles 4 :: d.calls
          else d.calls)).withElapsed (d.elapsedCycles + 4)
      ∧ t.cpu = s.cpu.countEi ∧ s.StoresNothing t
      ∧ (s.NeverFreezes → t.elapsedCycles = s.elapsedCycles + 4)

/-- The poll finds a source iff general-purpose HDMA does not freeze the CPU and the source is enabled
and pending, and of these it finds the one with the lowest index (R311; where the poll stands is the
spec's decision D8, log 1). -/
def Obligations.PollFindsTheLowestSource : Prop :=
  ∀ (s : State) (i : Fin 5),
    s.polledSource = some i ↔
      s.hdmaHaltsCpu = false
      ∧ (s.irq.ie.getLsbD i = true ∧ s.irq.flags.getLsbD i = true)
      ∧ ∀ j : Fin 5, j < i → ¬ (s.irq.ie.getLsbD j = true ∧ s.irq.flags.getLsbD j = true)

/-- The dispatch of a polled source with IME set, M-cycle by M-cycle (R314): two idle, the two bytes of
PC pushed high byte first, then IME and the source's IF bit cleared and PC at the source's address; after
one idle M-cycle more when it wakes STOPPED (R310). The placement inside the five M-cycles and the vectors
are the spec's decisions D9 and D13. -/
def Obligations.DispatchSequence : Prop :=
  ∀ (s : State) (i : Fin 5),
    let s1 := s.startTick.withCpu s.cpu.countEi
    let r := { s1.cpu with halted := false, stopped := false }
    let m1 := if s.cpu.stopped then s1.nextCycle else s1
    let m3 := m1.nextCycle.nextCycle.busWrite (s.cpu.sp - 1) (highByte s.cpu.pc)
    let m4 := m3.nextCycle.busWrite (s.cpu.sp - 2) (lowByte s.cpu.pc)
    let m5 := m4.nextCycle
    s1.polledSource = some i → s1.cpu.ime = true →
    step s = .next ((m5.withCpu
      { r with sp := s.cpu.sp - 2, ime := false, pc := BitVec.ofNat 16 (0x40 + 8 * i.val) }).clear i).endTick

/-- What a dispatch saves and changes, when its two pushes go to no register (R315): the return address
in the two bytes below the old SP, high byte at the higher address; SP, PC, IME, HALTED, STOPPED; no
setting, no other byte of memory but what transfers copy, and no other source's pending bit. Built on the
spec's decisions D9 and D13. -/
def Obligations.DispatchSavesOnlyThePC : Prop :=
  ∀ (s : State) (i : Fin 5),
    let s1 := s.startTick.withCpu s.cpu.countEi
    let m1 := if s.cpu.stopped then s1.nextCycle else s1
    let m3 := m1.nextCycle.nextCycle
    let m4 := (m3.busWrite (s.cpu.sp - 1) (highByte s.cpu.pc)).nextCycle
    s1.polledSource = some i → s1.cpu.ime = true →
    (s.route (s.cpu.sp - 1) ≠ .io ∧ s.route (s.cpu.sp - 1) ≠ .ie) →
    (s.route (s.cpu.sp - 2) ≠ .io ∧ s.route (s.cpu.sp - 2) ≠ .ie) →
    ∃ t, step s = .next t
      ∧ t.cpu = { s.cpu.countEi with
          sp := s.cpu.sp - 2, pc := BitVec.ofNat 16 (0x40 + 8 * i.val), ime := false
          halted := false, stopped := false }
      ∧ t.settings = s.settings
      ∧ (∀ j : Fin 5, j ≠ i → s.irq.flags.getLsbD j = true → t.irq.flags.getLsbD j = true)
      ∧ ∀ k, ¬ s.EngineCell k →
          (m3.writtenCell (s.cpu.sp - 1) ≠ some k → m4.writtenCell (s.cpu.sp - 2) ≠ some k →
            t.mem.read k = s.mem.read k)
          ∧ (s.mem.wf → m3.writtenCell (s.cpu.sp - 1) = some k → t.mem.read k = highByte s.cpu.pc)
          ∧ (s.mem.wf → m4.writtenCell (s.cpu.sp - 2) = some k → t.mem.read k = lowByte s.cpu.pc)

/-- A deliverable source wakes the CPU whatever IME is (R322, R291, R292): with IME clear the step runs the
instruction at PC at once from HALTED, one idle M-cycle later from STOPPED (the spec's decisions D8, D10). -/
def Obligations.WakeWithoutIme : Prop :=
  ∀ (s : State) (i : Instr) (j : Fin 5) (rest : List Byte),
    let s1 := s.startTick.withCpu s.cpu.countEi
    let w := (if s.cpu.stopped then s1.nextCycle else s1).withCpu
      { s1.cpu with halted := false, stopped := false }
    s1.polledSource = some j → s1.cpu.ime = false →
    decode w.fetchInstr.1 = .ok (i, rest) →
    step s = exec i w.fetchInstr.2

/-- The one-instruction delay of EI (R28, R294): with the counter at 2 the step runs an instruction
whatever is pending; with it at 1 the poll sets IME and dispatches (the spec's decisions D6, D7, D8). -/
def Obligations.EiDelay : Prop :=
  ∀ s : State, s.cpu.halted = false → s.cpu.stopped = false →
    (∀ i rest,
      let s1 := s.startTick.withCpu { s.cpu with eiCounter := 1 }
      s.cpu.eiCounter = 2 → s.cpu.ime = false → decode s1.fetchInstr.1 = .ok (i, rest) →
      step s = exec i s1.fetchInstr.2)
    ∧ ∀ j, s.cpu.eiCounter = 1 → s.startTick.polledSource = some j →
        ∃ t, step s = .next t
          ∧ t.cpu = { s.cpu with
              eiCounter := 0, ime := false, sp := s.cpu.sp - 2, pc := BitVec.ofNat 16 (0x40 + 8 * j.val) }

/-- Every instruction takes the M-cycles of the table of R425, a conditional one by its condition (the spec's
decision D34), where no transfer in progress can freeze the CPU: on a base machine, and on an enhanced one
whose HDMA engine is stopped or HBlank-gated (R349). -/
def Obligations.InstructionsTakeTheirMCycles : Prop :=
  ∀ (i : Instr) (s t : State), i.wf = true → s.NeverFreezes → exec i s = .next t →
    t.elapsedCycles + 4 * i.length = s.elapsedCycles + 4 * (i.mCyclesOn s.cpu.flags + 1)

/-! ## Loads and stores (spec/40_load8.md, spec/41_load16.md) -/

/-- The loads of a register or pair from a register or an immediate: `LD r,r'` (R140), `LD r,n` (R141),
`LD rr,nn` (R170), `LD SP,HL` (R172). -/
def Obligations.LoadRegister : Prop :=
  ∀ (dst src : Reg8) (n : Byte) (p : Pair) (nn : Word) (s : State),
    RunsAs (.ldReg dst src) [opcode 1 dst.code src.code] 1 s (fun t =>
      t.cpu = s.cpu.setReg dst (s.cpu.reg src) ∧ s.StoresNothing t)
    ∧ RunsAs (.ldRegImm dst n) [opcode 0 dst.code 6, n] 2 s (fun t =>
      t.cpu = s.cpu.setReg dst n ∧ s.StoresNothing t)
    ∧ RunsAs (.ldPair p nn) [opcodeOfPair 0 p.code 0 1, lowByte nn, highByte nn] 3 s (fun t =>
      t.cpu = s.cpu.setPair p nn ∧ s.StoresNothing t)
    ∧ RunsAs .ldSPHL [0xF9] 2 s (fun t =>
      t.cpu = { s.cpu with sp := s.cpu.hl } ∧ s.StoresNothing t)

/-- The loads of one byte from memory (R142, R145, R146, R149, R151, R153): the byte at the address, read
in the next M-cycle, 0xFF where the bus gives that. -/
def Obligations.LoadFromMemory : Prop :=
  ∀ (r : Reg8) (nn : Word) (n : Byte) (s : State),
    let loads (i : Instr) (bytes : List Byte) (m : Nat) (dst : Reg8) (a : Word) : Prop :=
      RunsAs i bytes m s (fun t =>
        t.cpu = s.cpu.setReg dst (s.nextCycle.busRead a) ∧ s.StoresNothing t)
    loads (.ldRegMem r) [opcode 1 r.code 6] 2 r s.cpu.hl
    ∧ loads .ldAAtBC [0x0A] 2 .a s.cpu.bc
    ∧ loads .ldAAtDE [0x1A] 2 .a s.cpu.de
    ∧ loads (.ldAAtNn nn) [0xFA, lowByte nn, highByte nn] 4 .a nn
    ∧ loads .ldhAAtC [0xF2] 2 .a (joinBytes 0xFF s.cpu.c)
    ∧ loads (.ldhAAtN n) [0xF0, n] 3 .a (joinBytes 0xFF n)

/-- The stores of one byte to memory (R143, R144, R147, R148, R150, R152, R154): in the next M-cycle the bus
takes the byte at the address, and nothing else is stored. -/
def Obligations.StoreToMemory : Prop :=
  ∀ (r : Reg8) (nn : Word) (n : Byte) (s : State),
    let stores (i : Instr) (bytes : List Byte) (m : Nat) (a : Word) (v : Byte) : Prop :=
      RunsAs i bytes m s (fun t => t.cpu = s.cpu ∧ s.StoresByte s.nextCycle a v t)
    stores (.ldMemReg r) [opcode 1 6 r.code] 2 s.cpu.hl (s.cpu.reg r)
    ∧ stores (.ldAtHLImm n) [0x36, n] 3 s.cpu.hl n
    ∧ stores .ldAtBCA [0x02] 2 s.cpu.bc s.cpu.a
    ∧ stores .ldAtDEA [0x12] 2 s.cpu.de s.cpu.a
    ∧ stores (.ldAtNnA nn) [0xEA, lowByte nn, highByte nn] 4 nn s.cpu.a
    ∧ stores .ldhAtCA [0xE2] 2 (joinBytes 0xFF s.cpu.c) s.cpu.a
    ∧ stores (.ldhAtNA n) [0xE0, n] 3 (joinBytes 0xFF n) s.cpu.a

/-- The loads and stores at HL that step HL (R155 to R158): A and HL are written in the M-cycle of the
access, HL also when the store is dropped; HL wraps. -/
def Obligations.StepHL : Prop :=
  ∀ s : State,
    RunsAs .ldAAtHLDec [0x3A] 2 s (fun t =>
      t.cpu = (s.cpu.setReg .a (s.nextCycle.busRead s.cpu.hl)).setPair .hl (s.cpu.hl - 1)
      ∧ s.StoresNothing t)
    ∧ RunsAs .ldAAtHLInc [0x2A] 2 s (fun t =>
      t.cpu = (s.cpu.setReg .a (s.nextCycle.busRead s.cpu.hl)).setPair .hl (s.cpu.hl + 1)
      ∧ s.StoresNothing t)
    ∧ RunsAs .ldAtHLDecA [0x32] 2 s (fun t =>
      t.cpu = s.cpu.setPair .hl (s.cpu.hl - 1) ∧ s.StoresByte s.nextCycle s.cpu.hl s.cpu.a t)
    ∧ RunsAs .ldAtHLIncA [0x22] 2 s (fun t =>
      t.cpu = s.cpu.setPair .hl (s.cpu.hl + 1) ∧ s.StoresByte s.nextCycle s.cpu.hl s.cpu.a t)

/-! ## The stack (spec/41_load16.md) -/

/-- The 16-bit stores: `LD (nn),SP` (R171), the low byte at `nn`, then the high byte at `nn + 1`, which
wraps; `PUSH rr` (R173), an idle M-cycle, then the high byte below the old SP and the low byte below that. -/
def Obligations.StorePair : Prop :=
  ∀ (p : StackPair) (nn : Word) (s : State),
    RunsAs (.ldAtNnSP nn) [0x08, lowByte nn, highByte nn] 5 s (fun t =>
      t.cpu = s.cpu
      ∧ s.StoresTwo s.nextCycle nn (lowByte s.cpu.sp) (nn + 1) (highByte s.cpu.sp) t)
    ∧ RunsAs (.push p) [opcodeOfPair 3 p.code 0 5] 4 s (fun t =>
      t.cpu = { s.cpu with sp := s.cpu.sp - 2 }
      ∧ s.Pushes s.nextCycle.nextCycle (s.cpu.stackPair p) t)

/-- `POP rr` (R174): the low byte at SP in one M-cycle, the high byte above it in the next; `POP AF`
drops bits 3..0 of the low byte. -/
def Obligations.PopPair : Prop :=
  ∀ (p : StackPair) (s : State),
    let lo := s.nextCycle.busRead s.cpu.sp
    let hi := s.nextCycle.nextCycle.busRead (s.cpu.sp + 1)
    RunsAs (.pop p) [opcodeOfPair 3 p.code 0 1] 3 s (fun t =>
      t.cpu = { s.cpu.setStackPair p (joinBytes hi lo) with sp := s.cpu.sp + 2 }
      ∧ t.cpu.stackPair p = (if p = .af then joinBytes hi (lo &&& 0xF0) else joinBytes hi lo)
      ∧ (p ≠ .af → t.cpu.flags = s.cpu.flags)
      ∧ s.StoresNothing t)

/-- `LD HL,SP+e` (R175) and `ADD SP,e` (R223). -/
def Obligations.OffsetFromStackPointer : Prop :=
  ∀ (e : Byte) (s : State),
    RunsAs (.ldHLSPOff e) [0xF8, e] 3 s (fun t =>
      OffsetRule s.cpu.sp e t.cpu.hl t.cpu.flags
      ∧ t.cpu = { s.cpu.setPair .hl t.cpu.hl with flags := t.cpu.flags } ∧ s.StoresNothing t)
    ∧ RunsAs (.addSPOff e) [0xE8, e] 4 s (fun t =>
      OffsetRule s.cpu.sp e t.cpu.sp t.cpu.flags
      ∧ t.cpu = { s.cpu with sp := t.cpu.sp, flags := t.cpu.flags } ∧ s.StoresNothing t)

/-! ## 8-bit arithmetic and logic (spec/42_alu8.md) -/

/-- `op A,r` for the eight operations (R181, R184, R187, R190, R193, R196, R199, R202): A and the flags by
the operation's rule; no other register changes. -/
def Obligations.AluWithRegister : Prop :=
  ∀ (op : AluOp) (r : Reg8) (s : State),
    RunsAs (.aluReg op r) [opcode 2 op.code r.code] 1 s (fun t =>
      AluRule op s.cpu.a (s.cpu.reg r) s.cpu.flags t.cpu.a t.cpu.flags
      ∧ t.cpu = { s.cpu with a := t.cpu.a, flags := t.cpu.flags } ∧ s.StoresNothing t)

/-- `op A,(HL)` for the eight operations (R182, R185, R188, R191, R194, R197, R200, R203): the byte is read in
the next M-cycle. -/
def Obligations.AluWithMemory : Prop :=
  ∀ (op : AluOp) (s : State),
    RunsAs (.aluMem op) [opcode 2 op.code 6] 2 s (fun t =>
      AluRule op s.cpu.a (s.nextCycle.busRead s.cpu.hl) s.cpu.flags t.cpu.a t.cpu.flags
      ∧ t.cpu = { s.cpu with a := t.cpu.a, flags := t.cpu.flags } ∧ s.StoresNothing t)

/-- `op A,n` for the eight operations (R183, R186, R189, R192, R195, R198, R201, R204). -/
def Obligations.AluWithImmediate : Prop :=
  ∀ (op : AluOp) (n : Byte) (s : State),
    RunsAs (.aluImm op n) [opcode 3 op.code 6, n] 2 s (fun t =>
      AluRule op s.cpu.a n s.cpu.flags t.cpu.a t.cpu.flags
      ∧ t.cpu = { s.cpu with a := t.cpu.a, flags := t.cpu.flags } ∧ s.StoresNothing t)

/-- `INC r` (R205), `DEC r` (R207), and `INC (HL)` (R206), `DEC (HL)` (R208), of which one M-cycle reads the
byte and the next writes it; the flags come from the byte read. -/
def Obligations.IncDecByte : Prop :=
  ∀ (r : Reg8) (s : State),
    let old := s.nextCycle.busRead s.cpu.hl
    let m3 := s.nextCycle.nextCycle
    RunsAs (.incReg r) [opcode 0 r.code 4] 1 s (fun t =>
      IncRule (s.cpu.reg r) s.cpu.flags (t.cpu.reg r) t.cpu.flags
      ∧ t.cpu = { s.cpu.setReg r (t.cpu.reg r) with flags := t.cpu.flags } ∧ s.StoresNothing t)
    ∧ RunsAs (.decReg r) [opcode 0 r.code 5] 1 s (fun t =>
      DecRule (s.cpu.reg r) s.cpu.flags (t.cpu.reg r) t.cpu.flags
      ∧ t.cpu = { s.cpu.setReg r (t.cpu.reg r) with flags := t.cpu.flags } ∧ s.StoresNothing t)
    ∧ RunsAs .incAtHL [0x34] 3 s (fun t => ∃ res,
      IncRule old s.cpu.flags res t.cpu.flags
      ∧ t.cpu = { s.cpu with flags := t.cpu.flags } ∧ s.StoresByte m3 s.cpu.hl res t)
    ∧ RunsAs .decAtHL [0x35] 3 s (fun t => ∃ res,
      DecRule old s.cpu.flags res t.cpu.flags
      ∧ t.cpu = { s.cpu with flags := t.cpu.flags } ∧ s.StoresByte m3 s.cpu.hl res t)

/-- `DAA` (R209), `CPL` (R210), `SCF` (R211), `CCF` (R212). -/
def Obligations.AdjustAndCarry : Prop :=
  ∀ s : State,
    RunsAs .daa [0x27] 1 s (fun t =>
      DaaRule s.cpu.a s.cpu.flags t.cpu.a t.cpu.flags
      ∧ t.cpu = { s.cpu with a := t.cpu.a, flags := t.cpu.flags } ∧ s.StoresNothing t)
    ∧ RunsAs .cpl [0x2F] 1 s (fun t =>
      t.cpu = { s.cpu with a := ~~~s.cpu.a, flags := { s.cpu.flags with n := true, h := true } }
      ∧ s.StoresNothing t)
    ∧ RunsAs .scf [0x37] 1 s (fun t =>
      t.cpu = { s.cpu with flags := { s.cpu.flags with n := false, h := false, c := true } }
      ∧ s.StoresNothing t)
    ∧ RunsAs .ccf [0x3F] 1 s (fun t =>
      t.cpu = { s.cpu with flags := { s.cpu.flags with n := false, h := false, c := !s.cpu.flags.c } }
      ∧ s.StoresNothing t)

/-- What DAA is for (R209): after ADD or ADC of two packed decimal numbers, from a register, the byte at HL or
an immediate, DAA leaves their decimal sum in A and its hundreds digit in CF; after SUB or SBC their decimal
difference and the borrow. -/
def Obligations.DaaCompletesDecimalArithmetic : Prop :=
  ∀ (op : AluOp) (i : Instr) (v : Byte) (x y : Nat) (s : State),
    let packed (k : Nat) : Byte := BitVec.ofNat 8 (k / 10 * 16 + k % 10)
    let c := if op = .adc ∨ op = .sbc then s.cpu.flags.c.toNat else 0
    (∃ r, i = .aluReg op r ∧ v = s.cpu.reg r) ∨ (i = .aluMem op ∧ v = s.nextCycle.busRead s.cpu.hl)
      ∨ i = .aluImm op v →
    x < 100 → y < 100 → s.cpu.a = packed x → v = packed y →
    (op = .add ∨ op = .adc → ∃ t u, exec i s = .next t ∧ exec .daa t = .next u
      ∧ u.cpu.a = packed ((x + y + c) % 100) ∧ u.cpu.flags.c = decide (100 ≤ x + y + c))
    ∧ (op = .sub ∨ op = .sbc → ∃ t u, exec i s = .next t ∧ exec .daa t = .next u
      ∧ u.cpu.a = packed ((x + 100 - y - c) % 100) ∧ u.cpu.flags.c = decide (x < y + c))

/-! ## 16-bit arithmetic (spec/43_alu16.md) -/

/-- `ADD HL,rr` (R220); `INC rr` (R221) and `DEC rr` (R222), which change no flag and wrap. -/
def Obligations.PairArithmetic : Prop :=
  ∀ (p : Pair) (s : State),
    RunsAs (.addHLPair p) [opcodeOfPair 0 p.code 1 1] 2 s (fun t =>
      AddHLRule s.cpu.hl (s.cpu.pair p) s.cpu.flags t.cpu.hl t.cpu.flags
      ∧ t.cpu = { s.cpu.setPair .hl t.cpu.hl with flags := t.cpu.flags } ∧ s.StoresNothing t)
    ∧ RunsAs (.incPair p) [opcodeOfPair 0 p.code 0 3] 2 s (fun t =>
      t.cpu = s.cpu.setPair p (t.cpu.pair p)
      ∧ (t.cpu.pair p).toNat = ((s.cpu.pair p).toNat + 1) % 65536 ∧ s.StoresNothing t)
    ∧ RunsAs (.decPair p) [opcodeOfPair 0 p.code 1 3] 2 s (fun t =>
      t.cpu = s.cpu.setPair p (t.cpu.pair p)
      ∧ (t.cpu.pair p).toNat = ((s.cpu.pair p).toNat + 65535) % 65536 ∧ s.StoresNothing t)

/-! ## Rotates, shifts and bits (spec/44_rotate_shift_bit.md) -/

/-- `RLCA`, `RRCA`, `RLA`, `RRA` (R231 to R234): ZF is 0 whatever the result. -/
def Obligations.RotateAccumulator : Prop :=
  ∀ s : State,
    let rotates (i : Instr) (byte : Byte) (op : RotOp) : Prop :=
      RunsAs i [byte] 1 s (fun t =>
        RotateRule op false s.cpu.a s.cpu.flags t.cpu.a t.cpu.flags
        ∧ t.cpu = { s.cpu with a := t.cpu.a, flags := t.cpu.flags } ∧ s.StoresNothing t)
    rotates .rlca 0x07 .rlc ∧ rotates .rrca 0x0F .rrc ∧ rotates .rla 0x17 .rl ∧ rotates .rra 0x1F .rr

/-- The eight rotates and shifts, of a register (R235, R237, R239, R241, R243, R245, R247, R249) and of the byte
at HL, read in M3 and written in M4 (R230). -/
def Obligations.RotateByte : Prop :=
  ∀ (op : RotOp) (r : Reg8) (s : State),
    RunsAs (.rotReg op r) [0xCB, opcode 0 op.code r.code] 2 s (fun t =>
      RotateRule op true (s.cpu.reg r) s.cpu.flags (t.cpu.reg r) t.cpu.flags
      ∧ t.cpu = { s.cpu.setReg r (t.cpu.reg r) with flags := t.cpu.flags } ∧ s.StoresNothing t)
    ∧ RunsAs (.rotMem op) [0xCB, opcode 0 op.code 6] 4 s (fun t => ∃ res,
      RotateRule op true (s.nextCycle.busRead s.cpu.hl) s.cpu.flags res t.cpu.flags
      ∧ t.cpu = { s.cpu with flags := t.cpu.flags }
      ∧ s.StoresByte s.nextCycle.nextCycle s.cpu.hl res t)

/-- `BIT b,r` (R251) and `BIT b,(HL)` (R252): only the flags change. -/
def Obligations.TestBit : Prop :=
  ∀ (b : BitIdx) (r : Reg8) (s : State),
    RunsAs (.bitReg b r) [0xCB, opcode 1 b.code r.code] 2 s (fun t =>
      BitRule b (s.cpu.reg r) s.cpu.flags t.cpu.flags
      ∧ t.cpu = { s.cpu with flags := t.cpu.flags } ∧ s.StoresNothing t)
    ∧ RunsAs (.bitMem b) [0xCB, opcode 1 b.code 6] 3 s (fun t =>
      BitRule b (s.nextCycle.busRead s.cpu.hl) s.cpu.flags t.cpu.flags
      ∧ t.cpu = { s.cpu with flags := t.cpu.flags } ∧ s.StoresNothing t)

/-- `RES b,r` (R253), `SET b,r` (R255), and `RES b,(HL)` (R254), `SET b,(HL)` (R256), read in M3 and written in
M4: one bit is replaced; no flag changes. -/
def Obligations.PutBit : Prop :=
  ∀ (b : BitIdx) (r : Reg8) (s : State),
    RunsAs (.resReg b r) [0xCB, opcode 2 b.code r.code] 2 s (fun t =>
      PutBitRule b false (s.cpu.reg r) (t.cpu.reg r)
      ∧ t.cpu = s.cpu.setReg r (t.cpu.reg r) ∧ s.StoresNothing t)
    ∧ RunsAs (.setReg b r) [0xCB, opcode 3 b.code r.code] 2 s (fun t =>
      PutBitRule b true (s.cpu.reg r) (t.cpu.reg r)
      ∧ t.cpu = s.cpu.setReg r (t.cpu.reg r) ∧ s.StoresNothing t)
    ∧ RunsAs (.resMem b) [0xCB, opcode 2 b.code 6] 4 s (fun t => ∃ res,
      PutBitRule b false (s.nextCycle.busRead s.cpu.hl) res
      ∧ t.cpu = s.cpu ∧ s.StoresByte s.nextCycle.nextCycle s.cpu.hl res t)
    ∧ RunsAs (.setMem b) [0xCB, opcode 3 b.code 6] 4 s (fun t => ∃ res,
      PutBitRule b true (s.nextCycle.busRead s.cpu.hl) res
      ∧ t.cpu = s.cpu ∧ s.StoresByte s.nextCycle.nextCycle s.cpu.hl res t)

/-- The prefix byte (R295): M2 fetches the extended opcode at PC, whatever its value, and the instruction
it selects runs and completes. -/
def Obligations.PrefixRunsTheExtendedOpcode : Prop :=
  ∀ s : State,
    exec .prefixCB s = exec (decodeExtended (s.nextCycle.busRead s.cpu.pc))
      (s.nextCycle.withCpu { s.cpu with pc := s.cpu.pc + 1 })
    ∧ ∃ t, exec .prefixCB s = .next t

/-! ## Control transfers (spec/45_control.md) -/

/-- `JP nn`, `JP cc,nn`, `JP HL`, `JR e`, `JR cc,e` (R271 to R275): PC, and with it nothing else, on the
condition the flags give; relative to the address after the instruction. -/
def Obligations.Jumps : Prop :=
  ∀ (cc : Cond) (nn : Word) (e : Byte) (s : State),
    let taken := s.cpu.flags.cond cc
    let goes (i : Instr) (bytes : List Byte) (m : Nat) (target : Word) : Prop :=
      RunsAs i bytes m s (fun t => t.cpu = { s.cpu with pc := target } ∧ s.StoresNothing t)
    let rel := BitVec.ofInt 16 ((s.cpu.pc.toNat : Int) + e.toInt)
    goes (.jpImm16 nn) [0xC3, lowByte nn, highByte nn] 4 nn
    ∧ goes (.jpCond cc nn) [opcode 3 (0#1 ++ cc.code) 2, lowByte nn, highByte nn]
        (if taken then 4 else 3) (if taken then nn else s.cpu.pc)
    ∧ goes .jpHL [0xE9] 1 (joinBytes s.cpu.h s.cpu.l)
    ∧ goes (.jrOff e) [0x18, e] 3 rel
    ∧ goes (.jrCond cc e) [opcode 0 (1#1 ++ cc.code) 0, e]
        (if taken then 3 else 2) (if taken then rel else s.cpu.pc)

/-- `CALL nn`, `CALL cc,nn` and `RST t` (R276, R277, R281): the address after the instruction is pushed after
an idle M-cycle, and PC is the target; a call not taken changes nothing. -/
def Obligations.Calls : Prop :=
  ∀ (cc : Cond) (nn : Word) (r : RstTarget) (s : State),
    let calls (i : Instr) (bytes : List Byte) (m : Nat) (target : Word) : Prop :=
      RunsAs i bytes m s (fun t =>
        t.cpu = { s.cpu with pc := target, sp := s.cpu.sp - 2 }
        ∧ s.Pushes s.nextCycle.nextCycle s.cpu.pc t)
    calls (.callImm16 nn) [0xCD, lowByte nn, highByte nn] 6 nn
    ∧ (s.cpu.flags.cond cc = true →
        calls (.callCond cc nn) [opcode 3 (0#1 ++ cc.code) 4, lowByte nn, highByte nn] 6 nn)
    ∧ (s.cpu.flags.cond cc = false →
        RunsAs (.callCond cc nn) [opcode 3 (0#1 ++ cc.code) 4, lowByte nn, highByte nn] 3 s (fun t =>
          t.cpu = s.cpu ∧ s.StoresNothing t))
    ∧ calls (.rst r) [opcode 3 r.code 7] 4 (8 * r.code.setWidth 16)

/-- `RET`, `RET cc` and `RETI` (R278, R279, R280): PC from the two bytes at SP, low byte first, and SP past
them; RETI sets IME at once and leaves the EI counter (the spec's decision D12). -/
def Obligations.Returns : Prop :=
  ∀ (cc : Cond) (s : State),
    let lo := s.nextCycle.busRead s.cpu.sp
    let hi := s.nextCycle.nextCycle.busRead (s.cpu.sp + 1)
    let lo' := s.nextCycle.nextCycle.busRead s.cpu.sp
    let hi' := s.nextCycle.nextCycle.nextCycle.busRead (s.cpu.sp + 1)
    RunsAs .ret [0xC9] 4 s (fun t =>
      t.cpu = { s.cpu with pc := joinBytes hi lo, sp := s.cpu.sp + 2 } ∧ s.StoresNothing t)
    ∧ RunsAs .reti [0xD9] 4 s (fun t =>
      t.cpu = { s.cpu with pc := joinBytes hi lo, sp := s.cpu.sp + 2, ime := true }
      ∧ s.StoresNothing t)
    ∧ (s.cpu.flags.cond cc = true →
        RunsAs (.retCond cc) [opcode 3 (0#1 ++ cc.code) 0] 5 s (fun t =>
          t.cpu = { s.cpu with pc := joinBytes hi' lo', sp := s.cpu.sp + 2 } ∧ s.StoresNothing t))
    ∧ (s.cpu.flags.cond cc = false →
        RunsAs (.retCond cc) [opcode 3 (0#1 ++ cc.code) 0] 2 s (fun t =>
          t.cpu = s.cpu ∧ s.StoresNothing t))

/-! ## System instructions (spec/46_system.md) -/

/-- `NOP` (R290), and, by the spec's decisions D10, D6 and D7, `STOP` (R292), `DI` (R293), `EI` (R294); and
`HALT` (R291): with IME clear and an enabled source pending it arms the HALT-bug latch and does not halt; else
it halts (that it does not halt is the spec's decision D11). -/
def Obligations.SystemInstructions : Prop :=
  ∀ (n : Byte) (s : State),
    let sets (i : Instr) (bytes : List Byte) (m : Nat) (r : Cpu) : Prop :=
      RunsAs i bytes m s (fun t => t.cpu = r ∧ s.StoresNothing t)
    let pending : Prop := ∃ i : Fin 5, s.irq.ie.getLsbD i = true ∧ s.irq.flags.getLsbD i = true
    sets .nop [0x00] 1 s.cpu
    ∧ sets (.stop n) [0x10, n] 2 { s.cpu with stopped := true }
    ∧ sets .di [0xF3] 1 { s.cpu with ime := false, eiCounter := 0 }
    ∧ sets .ei [0xFB] 1 { s.cpu with eiCounter := 2 }
    ∧ (s.cpu.ime = false ∧ pending → sets .halt [0x76] 1 { s.cpu with haltBug := true })
    ∧ (¬(s.cpu.ime = false ∧ pending) → sets .halt [0x76] 1 { s.cpu with halted := true })

/-! ## Tick by tick (spec/60_exceptions.md section 10) -/

/-- A step is the run of its ticks (R32, R370, R373): one `tick` after another, the CPU's part read from the
opcode's fields and what it has in flight kept between them, from an instruction boundary to the next, answers
what the step answers. That a step is a CPU iteration is log 1. -/
def Obligations.StepIsItsTicks : Prop :=
  ∀ s : State, TicksTo ⟨s, .boundary⟩ (step s)

/-! ## Unassigned opcodes (spec/46_system.md) -/

/-- The eleven unassigned opcodes (R296): one byte, one M-cycle, no effect under the policy `nop`; under
the policy `fault` each raises the fatal decode error with its opcode, the machine frozen as the opcode fetch
left it, PC past the opcode (R305, the spec's decision D31; that the fault carries that state is log 20). -/
def Obligations.UnassignedOpcodes : Prop :=
  ∀ (s : State) (i : Instr) (op : Byte),
    (i, op) ∈ ([(.undefinedD3, 0xD3), (.undefinedDB, 0xDB), (.undefinedDD, 0xDD), (.undefinedE3, 0xE3),
      (.undefinedE4, 0xE4), (.undefinedEB, 0xEB), (.undefinedEC, 0xEC), (.undefinedED, 0xED),
      (.undefinedF4, 0xF4), (.undefinedFC, 0xFC), (.undefinedFD, 0xFD)] : List (Instr × Byte)) →
    (s.params.undefinedPolicy = .nop →
      RunsAs i [op] 1 s (fun t => t.cpu = s.cpu ∧ s.StoresNothing t))
    ∧ (s.params.undefinedPolicy = .fault → encode i = [op] ∧ exec i s = .fault (.fatalDecode op s))

/-! ## Registers (spec/10_state.md) -/

/-- A pair is an alias of its two halves, and F has no bits 3..0 (R21, R22, R23); writing a register or a pair
leaves every other register, the flags, SP and the control bits as they were. -/
def Obligations.PairsAliasTheirHalves : Prop :=
  ∀ (r : Cpu) (x : Reg8) (v : Byte) (w : Word) (p : Pair) (q : StackPair),
    (r.setReg x v).reg x = v
    ∧ (∀ y, x ≠ y → (r.setReg x v).reg y = r.reg y)
    ∧ (r.setReg x v).flags = r.flags ∧ (r.setReg x v).sp = r.sp ∧ (r.setReg x v).control = r.control
    ∧ r.pair .bc = joinBytes (r.reg .b) (r.reg .c)
    ∧ r.pair .de = joinBytes (r.reg .d) (r.reg .e)
    ∧ r.pair .hl = joinBytes (r.reg .h) (r.reg .l)
    ∧ (r.setPair p w).pair p = w
    ∧ (∀ p', p ≠ p' → (r.setPair p w).pair p' = r.pair p')
    ∧ (r.setPair p w).a = r.a ∧ (r.setPair p w).flags = r.flags ∧ (r.setPair p w).control = r.control
    ∧ (r.setStackPair q w).stackPair q = (if q = .af then w &&& 0xFFF0 else w)
    ∧ (∀ q', q ≠ q' → (r.setStackPair q w).stackPair q' = r.stackPair q')
    ∧ (r.setStackPair q w).sp = r.sp ∧ (r.setStackPair q w).control = r.control
    ∧ (r.stackPair .af).extractLsb' 8 8 = r.a
    ∧ (r.stackPair .af).getLsbD 7 = r.flags.z ∧ (r.stackPair .af).getLsbD 6 = r.flags.n
    ∧ (r.stackPair .af).getLsbD 5 = r.flags.h ∧ (r.stackPair .af).getLsbD 4 = r.flags.c
    ∧ (r.stackPair .af).extractLsb' 0 4 = 0

/-! ## The bus (spec/20_memory.md) -/

/-- What a CPU read gives in every region of the routing table, blocked or not (R71, R72, R75, R77 to R80,
R82, R84, R86, R97 to R99), the cells of memory numbered as log 22 says. The overlay's range is the spec's
decision D27, the cartridge the default one of D26 (log 6). -/
def Obligations.ReadsByRegion : Prop :=
  ∀ (s : State) (a : Word),
    let n := a.toNat
    let m := s.mem.read
    let vramBlocked : Prop := s.ppu.mode = .pixelTransfer ∧ s.ppu.lcdc.getLsbD 7 = true
    let oamBlocked : Prop := s.ppu.mode = .oamScan ∨ s.ppu.mode = .pixelTransfer
      ∨ s.dma.state = .running ∨ s.dma.shadow = .running
    let off := n % 0x2000
    let bank := if s.params.enhanced = true ∧ s.io.svbk ≠ 0 then s.io.svbk.toNat else 1
    let overlay : Prop := s.io.bootActive = true
      ∧ (n < 0x100 ∨ s.params.enhanced = true ∧ 0x200 ≤ n ∧ n < 0x900)
    (n < 0x8000 → ¬ overlay → s.busRead a = m n)
    ∧ (overlay → ∀ image v, s.params.bootImage = some image → image[n]? = some v → s.busRead a = v)
    ∧ (0x8000 ≤ n → n < 0xA000 → vramBlocked → s.busRead a = 0xFF)
    ∧ (0x8000 ≤ n → n < 0xA000 → ¬ vramBlocked →
        s.busRead a = m (if s.params.enhanced = true ∧ s.io.vbk = 1 then 0x10000 + n else n))
    ∧ (0xA000 ≤ n → n < 0xC000 → s.busRead a = 0xFF)
    ∧ (0xC000 ≤ n → n < 0xFE00 → off < 0x1000 → s.busRead a = m (0xC000 + off))
    ∧ (0xC000 ≤ n → n < 0xFE00 → 0x1000 ≤ off →
        s.busRead a = m ((bank - 1) * 0x10000 + 0xC000 + off))
    ∧ (0xFE00 ≤ n → n < 0xFEA0 → oamBlocked → s.busRead a = 0xFF)
    ∧ (0xFE00 ≤ n → n < 0xFEA0 → ¬ oamBlocked → s.busRead a = m n)
    ∧ (0xFEA0 ≤ n → n < 0xFF00 → s.busRead a = 0xFF)
    ∧ (n = 0xFF03 ∨ 0xFF08 ≤ n ∧ n ≤ 0xFF0E ∨ 0xFF4C ≤ n ∧ n ≤ 0xFF4E ∨ 0xFF56 ≤ n ∧ n ≤ 0xFF6F
          ∨ 0xFF71 ≤ n ∧ n ≤ 0xFF7F
          ∨ s.params.enhanced = false ∧ (n = 0xFF4F ∨ 0xFF51 ≤ n ∧ n ≤ 0xFF55 ∨ n = 0xFF70) →
        s.busRead a = 0xFF)
    ∧ (0xFF80 ≤ n → n < 0xFFFF → s.busRead a = m n)
    ∧ (n = 0xFFFF → s.busRead a = s.irq.ie)

/-- What a CPU write does outside the I/O registers: where it is blocked, in the undecoded gap and at an
undecoded I/O address nothing; at the cartridge nothing but the call; at IE all 8 bits are stored; else
the cell of the address takes the byte and reads back (R73, R77 to R80, R82, R84, R86, R97 to R99; the
cartridge is log 6, the record of calls log 9). -/
def Obligations.WritesByRegion : Prop :=
  ∀ (s : State) (a : Word) (v : Byte),
    let n := a.toNat
    (n < 0x8000 → s.busWrite a v = s.record (.romWrite a v))
    ∧ (0xA000 ≤ n → n < 0xC000 → s.busWrite a v = s.record (.cartRamWrite a v))
    ∧ (0x8000 ≤ n → n < 0xA000 → s.vramBlocked = true → s.busWrite a v = s)
    ∧ (0xFE00 ≤ n → n < 0xFEA0 → s.oamBlocked = true → s.busWrite a v = s)
    ∧ (0xFEA0 ≤ n → n < 0xFF00 → s.busWrite a v = s)
    ∧ (n = 0xFF03 ∨ 0xFF08 ≤ n ∧ n ≤ 0xFF0E ∨ 0xFF4C ≤ n ∧ n ≤ 0xFF4E ∨ 0xFF56 ≤ n ∧ n ≤ 0xFF6F
          ∨ 0xFF71 ≤ n ∧ n ≤ 0xFF7F
          ∨ s.params.enhanced = false ∧ (n = 0xFF4F ∨ 0xFF51 ≤ n ∧ n ≤ 0xFF55 ∨ n = 0xFF70) →
        s.busWrite a v = s)
    ∧ (n = 0xFFFF → s.busWrite a v = s.withIrq { s.irq with ie := v })
    ∧ ((0x8000 ≤ n ∧ n < 0xA000 ∧ s.vramBlocked = false) ∨ (0xC000 ≤ n ∧ n < 0xFE00)
          ∨ (0xFE00 ≤ n ∧ n < 0xFEA0 ∧ s.oamBlocked = false) ∨ (0xFF80 ≤ n ∧ n < 0xFFFF) →
        ∃ k, s.writtenCell a = some k ∧ s.busWrite a v = s.withMem (s.mem.write k v)
          ∧ (s.mem.wf → (s.busWrite a v).busRead a = v))

/-- Two addresses reach one byte of memory only if they are one address or an address of working RAM and
its mirror (R82); so a store to one address is seen at no other. -/
def Obligations.AddressesShareNoByte : Prop :=
  ∀ (s : State) (a b : Word) (v : Byte) (k : Nat),
    s.writtenCell a = some k →
    (s.writtenCell b = some k ↔
      b = a ∨ (0xC000 ≤ a.toNat ∧ a.toNat < 0xDE00 ∧ b.toNat = a.toNat + 0x2000)
        ∨ (0xC000 ≤ b.toNat ∧ b.toNat < 0xDE00 ∧ a.toNat = b.toNat + 0x2000))
    ∧ (s.writtenCell b ≠ some k → (b.toNat < 0xFF00 ∨ 0xFF80 ≤ b.toNat) →
        (s.busWrite a v).busRead b = s.busRead b)

/-- The read column of the table of I/O registers (R66), but for the audio block, whose reads are any
byte. Its addresses, the bits that read 1, P1 and HDMA5 are the spec's decisions D14, D17, D24 and D20. HDMA5
while a transfer is not stopped is stated for both values of the model's own parameter hdma5RoundsUp (log 13):
the blocks left minus one by R348's integer division, and by R44's words, which round a partly copied block up. -/
def Obligations.RegisterReads : Prop :=
  ∀ s : State,
    let low : BitVec 4 := 0xF ^^^ (if s.io.joySelect.getLsbD 0 then 0 else s.io.keysDpad)
      ^^^ (if s.io.joySelect.getLsbD 1 then 0 else s.io.keysBtn)
    let modeBits : BitVec 2 := match s.ppu.mode with
      | .hblank => 0 | .vblank => 1 | .oamScan => 2 | .pixelTransfer => 3
    s.busRead 0xFF00 = 0xC0 ||| (s.io.joySelect.setWidth 8 <<< 4) ||| low.setWidth 8
    ∧ s.busRead 0xFF01 = s.io.sb ∧ s.busRead 0xFF02 = s.io.sc
    ∧ s.busRead 0xFF04 = s.timer.counter.extractLsb' 8 8
    ∧ s.busRead 0xFF05 = (if 0 < s.timer.reloadDelay then 0 else s.timer.tima)
    ∧ s.busRead 0xFF06 = s.timer.tma
    ∧ s.busRead 0xFF07 = 0xF8 ||| s.timer.tac.setWidth 8
    ∧ s.busRead 0xFF0F = 0xE0 ||| s.irq.flags.setWidth 8
    ∧ s.busRead 0xFF40 = s.ppu.lcdc
    ∧ s.busRead 0xFF41 = 0x80 ||| (s.ppu.statEn.setWidth 8 <<< 3)
        ||| (if s.ppu.ly = s.ppu.lyc then 4 else 0) ||| modeBits.setWidth 8
    ∧ s.busRead 0xFF42 = s.ppu.scy ∧ s.busRead 0xFF43 = s.ppu.scx
    ∧ s.busRead 0xFF44 = s.ppu.ly ∧ s.busRead 0xFF45 = s.ppu.lyc
    ∧ s.busRead 0xFF46 = s.dma.page
    ∧ s.busRead 0xFF47 = s.ppu.bgp ∧ s.busRead 0xFF48 = s.ppu.obp0 ∧ s.busRead 0xFF49 = s.ppu.obp1
    ∧ s.busRead 0xFF4A = s.ppu.wy ∧ s.busRead 0xFF4B = s.ppu.wx
    ∧ s.busRead 0xFF50 = 0xFF
    ∧ s.busRead 0xFFFF = s.irq.ie
    ∧ (s.params.enhanced = true →
        s.busRead 0xFF4F = 0xFE ||| s.io.vbk.setWidth 8
        ∧ s.busRead 0xFF51 = 0xFF ∧ s.busRead 0xFF52 = 0xFF
        ∧ s.busRead 0xFF53 = 0xFF ∧ s.busRead 0xFF54 = 0xFF
        ∧ (s.hdma.state = .stopped → s.busRead 0xFF55 = 0xFF)
        ∧ (s.hdma.state ≠ .stopped → s.params.hdma5RoundsUp = false →
            (s.busRead 0xFF55).toNat = (s.hdma.total / 16 + 127) % 128)
        ∧ (s.hdma.state ≠ .stopped → s.params.hdma5RoundsUp = true →
            (s.busRead 0xFF55).toNat = ((s.hdma.total + 15) / 16 + 127) % 128)
        ∧ s.busRead 0xFF70 = 0xF8 ||| s.io.svbk.setWidth 8)

/-- The write column of the table of I/O registers (R66, R334, R336, R337, R340, R345): each write changes what
the table names and nothing else (the spec's decisions D14, D15, D18, D20, D24, D25, D27; the call to the
audio collaborator is recorded, log 9). -/
def Obligations.RegisterWrites : Prop :=
  ∀ (s : State) (v : Byte),
    s.busWrite 0xFF00 v = s.withIo { s.io with joySelect := v.extractLsb' 4 2 }
    ∧ s.busWrite 0xFF01 v = s.withIo { s.io with sb := v }
    ∧ s.busWrite 0xFF02 v = s.withIo { s.io with sc := v }
    ∧ s.busWrite 0xFF05 v =
        (if 0 < s.timer.reloadDelay then s else s.withTimer { s.timer with tima := v })
    ∧ s.busWrite 0xFF06 v = s.withTimer { s.timer with tma := v }
    ∧ s.busWrite 0xFF07 v = s.withTimer { s.timer with tac := v.extractLsb' 0 3 }
    ∧ s.busWrite 0xFF0F v = s.withIrq { s.irq with flags := v.extractLsb' 0 5 }
    ∧ s.busWrite 0xFF40 v = (s.withPpu { s.ppu with lcdc := v }).updateStatLine
    ∧ s.busWrite 0xFF41 v = (s.withPpu { s.ppu with statEn := v.extractLsb' 3 4 }).updateStatLine
    ∧ s.busWrite 0xFF42 v = s.withPpu { s.ppu with scy := v }
    ∧ s.busWrite 0xFF43 v = s.withPpu { s.ppu with scx := v }
    ∧ s.busWrite 0xFF44 v = s
    ∧ s.busWrite 0xFF45 v = (s.withPpu { s.ppu with lyc := v }).updateStatLine
    ∧ s.busWrite 0xFF46 v =
        s.withDma { s.dma with page := v, shadow := s.dma.state, state := .requested }
    ∧ s.busWrite 0xFF47 v = s.withPpu { s.ppu with bgp := v }
    ∧ s.busWrite 0xFF48 v = s.withPpu { s.ppu with obp0 := v }
    ∧ s.busWrite 0xFF49 v = s.withPpu { s.ppu with obp1 := v }
    ∧ s.busWrite 0xFF4A v = s.withPpu { s.ppu with wy := v }
    ∧ s.busWrite 0xFF4B v = s.withPpu { s.ppu with wx := v }
    ∧ s.busWrite 0xFF50 v =
        (if v.getLsbD 0 = true then s.withIo { s.io with bootActive := false } else s)
    ∧ s.busWrite 0xFFFF v = s.withIrq { s.irq with ie := v }
    ∧ (∀ a : Word, 0xFF10 ≤ a.toNat → a.toNat ≤ 0xFF3F →
        s.busWrite a v = s.record (.audioWrite s.elapsedCycles a v))
    ∧ (s.params.enhanced = true →
        s.busWrite 0xFF4F v = s.withIo { s.io with vbk := v.extractLsb' 0 1 }
        ∧ s.busWrite 0xFF51 v = s.withHdma { s.hdma with src := joinBytes v (lowByte s.hdma.src) }
        ∧ s.busWrite 0xFF52 v =
            s.withHdma { s.hdma with src := joinBytes (highByte s.hdma.src) (v &&& 0xF0) }
        ∧ s.busWrite 0xFF53 v =
            s.withHdma { s.hdma with dst := joinBytes (0x80 ||| (v &&& 0x1F)) (lowByte s.hdma.dst) }
        ∧ s.busWrite 0xFF54 v =
            s.withHdma { s.hdma with dst := joinBytes (highByte s.hdma.dst) (v &&& 0xF0) }
        ∧ s.busWrite 0xFF55 v = s.withHdma { s.hdma with
            mode := if v.getLsbD 7 = true then .hblank else .general
            total := (v.toNat % 128 + 1) * 16, state := .requested }
        ∧ s.busWrite 0xFF70 v = s.withIo { s.io with svbk := v.extractLsb' 0 3 })

/-! ## The timer (spec/60_exceptions.md section 5) -/

/-- A timer step (R331 to R333): the counter advances by 4; an open reload window closes, loading TMA and
requesting source 2; then a falling edge of the watched bit increments TIMA, an overflow opening the
window (the order of these parts is the spec's decision D15). -/
def Obligations.TimerStep : Prop :=
  ∀ s : State, (s.timer.reloadDelay = 0 ∨ s.timer.reloadDelay = 4) →
    let t := s.timerStep
    let bit := match s.timer.tac.toNat % 4 with
      | 0 => 9 | 1 => 3 | 2 => 5 | _ => 7
    let base := if s.timer.reloadDelay = 4 then s.timer.tma else s.timer.tima
    let edge : Prop := s.timer.tac.getLsbD 2 = true ∧ s.timer.counter.getLsbD bit = true
      ∧ (s.timer.counter + 4).getLsbD bit = false
    t.timer.counter = s.timer.counter + 4 ∧ t.timer.tma = s.timer.tma ∧ t.timer.tac = s.timer.tac
    ∧ (¬ edge → t.timer.tima = base ∧ t.timer.reloadDelay = 0)
    ∧ (edge → base ≠ 0xFF → t.timer.tima = base + 1 ∧ t.timer.reloadDelay = 0)
    ∧ (edge → base = 0xFF → t.timer.tima = 0 ∧ t.timer.reloadDelay = 4)
    ∧ (s.timer.reloadDelay = 4 → t.irq = { s.irq with flags := s.irq.flags ||| 4 })
    ∧ (s.timer.reloadDelay = 0 → t.irq = s.irq)
    ∧ t = (s.withTimer t.timer).withIrq t.irq

/-- TIMA counts at the rates of the clock select (R331, R338): while the timer is on and does not
overflow, it grows by one in `period / 4` timer steps, and once in every such run of steps (an inference
the spec draws from R331). -/
def Obligations.TimerRate : Prop :=
  ∀ (s : State) (n : Nat),
    let period := match s.timer.tac.toNat % 4 with
      | 0 => 1024 | 1 => 16 | 2 => 64 | _ => 256
    s.timer.tac.getLsbD 2 = true → s.timer.counter.toNat % 4 = 0 → s.timer.reloadDelay = 0 →
    s.timer.tima.toNat + (s.timer.counter.toNat % period + 4 * n) / period ≤ 0xFF →
    (State.timerStep^[n] s).timer.tima.toNat
      = s.timer.tima.toNat + (s.timer.counter.toNat % period + 4 * n) / period

/-- A write to DIV (R334): the counter is 0, and TIMA is incremented first iff the timer is on, the
watched bit is 1 and no reload is pending (the spec's decisions D15, D16). -/
def Obligations.DividerWrite : Prop :=
  ∀ (s : State) (v : Byte),
    let t := s.busWrite 0xFF04 v
    let bit := match s.timer.tac.toNat % 4 with
      | 0 => 9 | 1 => 3 | 2 => 5 | _ => 7
    let counts : Prop := s.timer.tac.getLsbD 2 = true ∧ s.timer.counter.getLsbD bit = true
      ∧ s.timer.reloadDelay = 0
    t = s.withTimer t.timer
    ∧ t.timer.counter = 0 ∧ t.timer.tma = s.timer.tma ∧ t.timer.tac = s.timer.tac
    ∧ (¬ counts → t.timer.tima = s.timer.tima ∧ t.timer.reloadDelay = s.timer.reloadDelay)
    ∧ (counts → s.timer.tima ≠ 0xFF → t.timer.tima = s.timer.tima + 1 ∧ t.timer.reloadDelay = 0)
    ∧ (counts → s.timer.tima = 0xFF → t.timer.tima = 0 ∧ t.timer.reloadDelay = 4)

/-! ## The PPU (spec/60_exceptions.md section 8) -/

/-- The STAT line (R360): source 1 is requested exactly when the line rises; nothing else changes. -/
def Obligations.StatLineEdge : Prop :=
  ∀ s : State,
    let t := s.updateStatLine
    let line : Prop := (s.ppu.ly = s.ppu.lyc ∧ s.ppu.statEn.getLsbD 3 = true)
      ∨ (s.ppu.mode = .hblank ∧ s.ppu.statEn.getLsbD 0 = true)
      ∨ (s.ppu.mode = .vblank ∧ (s.ppu.statEn.getLsbD 1 = true ∨ s.ppu.statEn.getLsbD 2 = true))
      ∨ (s.ppu.mode = .oamScan ∧ s.ppu.statEn.getLsbD 2 = true)
    (t.ppu.statLine = true ↔ line)
    ∧ (line ∧ s.ppu.statLine = false → t.irq = { s.irq with flags := s.irq.flags ||| 2 })
    ∧ (¬(line ∧ s.ppu.statLine = false) → t.irq = s.irq)
    ∧ t = (s.withPpu { s.ppu with statLine := t.ppu.statLine }).withIrq t.irq

/-- The PPU's position in the frame (R352, R362): with the LCD on, `n` steps move it on by `4 n` cycles of
a frame of 154 lines of 456 cycles (R362 is the spec's inference). -/
def Obligations.FramePosition : Prop :=
  ∀ (s : State) (n : Nat), s.ppu.Ok → s.ppu.lcdc.getLsbD 7 = true →
    let t := State.ppuStep^[n] s
    t.ppu.ly.toNat * 456 + t.ppu.dot = (s.ppu.ly.toNat * 456 + s.ppu.dot + 4 * n) % 70224
    ∧ t.ppu.dot < 456 ∧ t.ppu.lcdc = s.ppu.lcdc

/-- A PPU step with the LCD on (R352 to R354, R356), whether the LCD was on before or is in the first step
since it was turned on (mode HBlank at line 0, dot 0): the mode is the one the new position gives; the length
of PixelTransfer is latched in the step to dot 80 of a visible line; source 0 is requested exactly in the
step that makes LY 144. When the length is evaluated is the spec's decision D21; a sprite's cost is open (D22,
log 4), and this holds whatever it is. With the LCD off (R351), and so in the step that finds a running LCD
turned off: mode HBlank, LY and dot 0, no source 0. -/
def Obligations.PpuStepMode : Prop :=
  ∀ s : State,
    let t := s.ppuStep
    let height := if s.ppu.lcdc.getLsbD 2 then 16 else 8
    let onLine (i : Nat) : Bool :=
      let y := (s.mem.read (0xFE00 + 4 * i)).toNat
      decide (y ≤ s.ppu.ly.toNat + 16 ∧ s.ppu.ly.toNat + 16 < y + height)
    let turnedOn : Prop := s.ppu.mode = .hblank ∧ s.ppu.ly = 0 ∧ s.ppu.dot = 0
    (s.ppu.lcdc.getLsbD 7 = true → s.ppu.Ok ∨ turnedOn →
      t.ppu.mode = modeAt t.ppu.ly.toNat t.ppu.dot t.ppu.len3
      ∧ (t.ppu.dot = 80 ∧ t.ppu.ly.toNat < 144 → t.ppu.len3 = 172 + s.ppu.scx.toNat % 8
          + Config.spriteM3Cost.val * min 10 ((List.range 40).countP onLine))
      ∧ (¬(t.ppu.dot = 80 ∧ t.ppu.ly.toNat < 144) → t.ppu.len3 = s.ppu.len3)
      ∧ (t.irq.flags.getLsbD 0 = true ↔
          s.irq.flags.getLsbD 0 = true ∨ (t.ppu.ly = 144 ∧ t.ppu.dot = 0)))
    ∧ (s.ppu.lcdc.getLsbD 7 = false →
      t.ppu.mode = .hblank ∧ t.ppu.ly = 0 ∧ t.ppu.dot = 0 ∧ t.ppu.len3 = s.ppu.len3
      ∧ t.irq.flags.getLsbD 0 = s.irq.flags.getLsbD 0)

/-! ## The transfer engines (spec/60_exceptions.md sections 6, 7) -/

/-- An OAM DMA transfer, from the write that starts it (R340 to R344): after `n` of the engine's steps it has
copied the first `n - 2` bytes of the page, at most 160; CPU accesses to OAM are blocked after 2 to 162 steps,
and the engine is stopped from the 162nd. A write while a transfer runs restarts it: OAM stays blocked from
before the first step on, and the first step copies one byte more, at the old index from the new page. Nothing
else is written (the spec's decision D18 and the inference R344). -/
def Obligations.OamDmaTransfer : Prop :=
  ∀ (s : State) (page : Byte) (n : Nat), s.mem.wf →
    let s0 := s.busWrite 0xFF46 page
    let t := State.dmaStep^[n] s0
    let again : Prop := s.dma.state = .running
    let copied (k : Nat) : Prop := k < 160 ∧ (k + 2 < n ∨ again ∧ 0 < n ∧ k = s.dma.index)
    (t.dmaBlocksOam = true ↔ (again ∨ 2 ≤ n) ∧ n ≤ 162)
    ∧ (t.dma.state = .stopped ↔ 162 ≤ n)
    ∧ (∀ k, copied k →
        t.mem.read (0xFE00 + k) = s0.rawRead .oamDma (joinBytes page 0 + BitVec.ofNat 16 k))
    ∧ ∀ c, (∀ k, copied k → c ≠ 0xFE00 + k) → t.mem.read c = s.mem.read c

/-- A general-purpose HDMA transfer (R346, R347): from a source that is cartridge, working RAM or OAM, as
many of the engine's steps as half its bytes copy the bytes in order, wrapping inside video memory, and
stop; source and destination have moved on (the spec's decisions D19, D20). -/
def Obligations.HdmaCopiesItsBytes : Prop :=
  ∀ s : State, s.mem.wf → s.params.enhanced = true →
    s.hdma.state = .running → s.hdma.mode = .general →
    0 < s.hdma.total → s.hdma.total % 2 = 0 → s.hdma.total ≤ 2048 →
    0x8000 ≤ s.hdma.dst.toNat → s.hdma.dst.toNat < 0xA000 →
    (∀ k, k < s.hdma.total →
      (s.hdma.src + BitVec.ofNat 16 k).toNat < 0x8000
      ∨ 0xA000 ≤ (s.hdma.src + BitVec.ofNat 16 k).toNat
        ∧ (s.hdma.src + BitVec.ofNat 16 k).toNat < 0xFEA0) →
    let t := State.hdmaStep^[s.hdma.total / 2] s
    let cell (k : Nat) : Nat :=
      s.vramBank * 0x10000 + 0x8000 + (s.hdma.dst.toNat + k) % 0x2000
    t.hdma.state = .stopped ∧ t.hdma.total = 0
    ∧ t.hdma.src = s.hdma.src + BitVec.ofNat 16 s.hdma.total
    ∧ t.hdma.dst.toNat = 0x8000 + (s.hdma.dst.toNat + s.hdma.total) % 0x2000
    ∧ (∀ k, k < s.hdma.total →
        t.mem.read (cell k) = s.rawRead .hdma (s.hdma.src + BitVec.ofNat 16 k))
    ∧ ∀ c, (∀ k, k < s.hdma.total → c ≠ cell k) → t.mem.read c = s.mem.read c

/-- HBlank-gated HDMA (R346, R347), from a source that is cartridge, working RAM or OAM: at the start of an
HBlank eight of the engine's steps copy 16 bytes in order, wrapping inside video memory, and nothing else;
source and destination have moved on. If bytes are left the engine then waits while HBlank lasts, and is ready
again once HBlank has ended; after the last block it stops (the spec's decisions D19, D20). -/
def Obligations.HdmaCopiesOneBlockPerHBlank : Prop :=
  ∀ (s : State) (n : Nat), s.mem.wf → s.params.enhanced = true →
    s.hdma.state = .running → s.hdma.mode = .hblank → s.hdma.sub = .awaitingHBlank →
    s.ppu.mode = .hblank → 16 ≤ s.hdma.total →
    0x8000 ≤ s.hdma.dst.toNat → s.hdma.dst.toNat < 0xA000 →
    (∀ k, k < 16 →
      (s.hdma.src + BitVec.ofNat 16 k).toNat < 0x8000
      ∨ 0xA000 ≤ (s.hdma.src + BitVec.ofNat 16 k).toNat
        ∧ (s.hdma.src + BitVec.ofNat 16 k).toNat < 0xFEA0) →
    let t := State.hdmaStep^[8] s
    let cell (k : Nat) : Nat :=
      s.vramBank * 0x10000 + 0x8000 + (s.hdma.dst.toNat + k) % 0x2000
    t.hdma.total = s.hdma.total - 16 ∧ t.hdma.src = s.hdma.src + 16
    ∧ t.hdma.dst.toNat = 0x8000 + (s.hdma.dst.toNat + 16) % 0x2000
    ∧ (∀ k, k < 16 → t.mem.read (cell k) = s.rawRead .hdma (s.hdma.src + BitVec.ofNat 16 k))
    ∧ (∀ c, (∀ k, k < 16 → c ≠ cell k) → t.mem.read c = s.mem.read c)
    ∧ State.hdmaStep^[n] t = t
    ∧ (s.hdma.total = 16 → t.hdma.state = .stopped)
    ∧ (16 < s.hdma.total → t.hdma.state = .running ∧ t.hdma.sub = .finishedLine
      ∧ ∀ m, m ≠ .hblank →
        (t.withPpu { t.ppu with mode := m }).hdmaStep.hdma = { t.hdma with sub := .awaitingHBlank })

/-- General-purpose HDMA freezes the CPU for half as many ticks as it has bytes left, no register of the
CPU changing, and then the CPU acts (R349, and the spec's inference R350). -/
def Obligations.HdmaFreezesTheCpu : Prop :=
  ∀ s : State, s.params.enhanced = true → s.hdma.state = .running → s.hdma.mode = .general →
    0 < s.hdma.total → s.hdma.total % 2 = 0 →
    s.startTick.cpu = s.cpu
    ∧ s.startTick.elapsedCycles = s.elapsedCycles + 4 * (s.hdma.total / 2)
    ∧ s.startTick.hdmaHaltsCpu = false ∧ s.startTick.hdma.state = .stopped
    ∧ s.StoresNothing s.startTick

/-! ## Host input (spec/60_exceptions.md R375, spec/10_state.md R60) -/

/-- A key press sets the key's bit in its group and a release clears it (R60, R375); source 4 is requested
at a press whose group is selected under the default policy, never under `never`, and by the host's own
event under `free`. The key bits and the three policies are the spec's decision D24; the model's form of
the policies is log 17. -/
def Obligations.HostKeys : Prop :=
  ∀ (s : State) (k : Key),
    let down := s.hostEvent (.keyDown k)
    let up := s.hostEvent (.keyUp k)
    let dpad : Option Nat := match k with
      | .right => some 0 | .left => some 1 | .up => some 2 | .down => some 3 | _ => none
    let btn : Option Nat := match k with
      | .a => some 0 | .b => some 1 | .select => some 2 | .start => some 3 | _ => none
    (∀ j : Fin 4, down.io.keysDpad.getLsbD j = (dpad == some j.val || s.io.keysDpad.getLsbD j)
      ∧ down.io.keysBtn.getLsbD j = (btn == some j.val || s.io.keysBtn.getLsbD j)
      ∧ up.io.keysDpad.getLsbD j = (dpad != some j.val && s.io.keysDpad.getLsbD j)
      ∧ up.io.keysBtn.getLsbD j = (btn != some j.val && s.io.keysBtn.getLsbD j))
    ∧ up.irq = s.irq ∧ down.cpu = s.cpu ∧ up.cpu = s.cpu
    ∧ (s.params.keyIrq = .selected →
        down.irq.flags = if (if dpad.isSome then s.io.joySelect.getLsbD 0 else s.io.joySelect.getLsbD 1)
          then s.irq.flags else s.irq.flags ||| 0x10)
    ∧ (s.params.keyIrq ≠ .selected → down.irq = s.irq)
    ∧ ((s.hostEvent .requestController).irq.flags
        = if s.params.keyIrq = .free then s.irq.flags ||| 0x10 else s.irq.flags)

/-! ## Reset and the invariant (spec/70_reset_and_hazards.md, spec/10_state.md R68) -/

/-- The reset values R68 gives without the mark "decision", in its three columns (R401); the whole table is
the spec's decision D28. -/
def Obligations.ResetValues : Prop :=
  ∀ p : Params,
    let s := State.resetWith p
    (p.bootImage.isSome = true →
      s.cpu.pc = 0x0000 ∧ s.ppu.lcdc = 0x00 ∧ s.ppu.bgp = 0x00 ∧ s.ppu.mode = .hblank
      ∧ s.io.bootActive = true)
    ∧ (p.bootImage = none →
      s.cpu.pc = 0x0100 ∧ s.cpu.sp = 0xFFFE ∧ s.ppu.lcdc = 0x91 ∧ s.ppu.bgp = 0xFC
      ∧ s.ppu.mode = .oamScan ∧ s.io.bootActive = false
      ∧ (p.enhanced = false →
          s.cpu.af = 0x01B0 ∧ s.cpu.bc = 0x0013 ∧ s.cpu.de = 0x00D8 ∧ s.cpu.hl = 0x014D)
      ∧ (p.enhanced = true →
          s.cpu.af = 0x1180 ∧ s.cpu.bc = 0x0000 ∧ s.cpu.de = 0xFF56 ∧ s.cpu.hl = 0x000D
          ∧ s.busRead 0xFF55 = 0xFF))
    ∧ s.cpu.ime = false ∧ s.cpu.eiCounter = 0 ∧ s.cpu.halted = false ∧ s.cpu.stopped = false
    ∧ s.cpu.haltBug = false ∧ s.irq.ie = 0x00
    ∧ s.timer.tima = 0 ∧ s.timer.tma = 0 ∧ s.timer.tac = 0 ∧ s.timer.reloadDelay = 0
    ∧ s.dma.state = .stopped ∧ s.dma.shadow = .stopped ∧ s.dma.index = 0
    ∧ s.hdma.mode = .general ∧ s.hdma.total = 0 ∧ s.hdma.block = 0 ∧ s.hdma.state = .stopped
    ∧ s.hdma.sub = .awaitingHBlank
    ∧ s.ppu.statEn = 0 ∧ s.ppu.scy = 0 ∧ s.ppu.scx = 0 ∧ s.ppu.wy = 0 ∧ s.ppu.wx = 0
    ∧ s.ppu.ly = 0 ∧ s.ppu.lyc = 0 ∧ s.ppu.dot = 0 ∧ s.ppu.len3 = 172 ∧ s.ppu.statLine = false
    ∧ s.io.vbk = 0 ∧ s.io.svbk = 0 ∧ s.io.keysDpad = 0 ∧ s.io.keysBtn = 0 ∧ s.elapsedCycles = 0

/-- The invariant holds right after reset, with every choice of parameters, `State.reset` among them. -/
def Obligations.InvAtReset : Prop :=
  State.reset.Inv ∧ ∀ p : Params, (State.resetWith p).Inv

/-- Every step keeps the invariant: memory in canonical form, the PPU's mode the one its position gives
(R51), the ranges of the counters (R42, R43, R48, R52, R53), the timer's counter aligned and TIMA 0 in the
reload window (R331, R333), no transfer request left over, HALTED, STOPPED and the HALT-bug latch exclusive
(R291, R292). -/
def Obligations.EveryStepKeepsTheInvariant : Prop :=
  ∀ s t : State, s.Inv → step s = .next t → t.Inv

end
end

