-- ==== Sys2Proof/Laws/Memory.lean ====
section
/-! SUPPORT. The laws of one cell of memory: read after write, and the canonical form. -/

namespace Sys2Proof.Machine

theorem Memory.nil_wf : Memory.wf [] := by simp [Memory.wf]

theorem Memory.wf_cons {p : Host.Cell} {m : Memory} :
    Memory.wf (p :: m) ↔ (∀ q ∈ m, p.1 < q.1) ∧ p.2 ≠ 0 ∧ Memory.wf m := by
  simp only [Memory.wf, List.pairwise_cons, List.forall_mem_cons]
  tauto

/-- A cell below every listed one reads as unlisted. -/
theorem Memory.read_eq_zero_of_lt {m : Memory} {k : Nat} (h : ∀ q ∈ m, k < q.1) : m.read k = 0 := by
  induction m with
  | nil => rfl
  | cons p m ih =>
    obtain ⟨a, v⟩ := p
    have h1 := h (a, v) (by simp)
    have : a ≠ k := by simp at h1; omega
    simp [Memory.read, this, ih (fun q hq => h q (by simp [hq]))]

/-- A write leaves every other cell alone, whatever the list. -/
theorem Memory.read_write_other (m : Memory) {k j : Nat} (v : Byte) (h : j ≠ k) :
    (m.write k v).read j = m.read j := by
  induction m with
  | nil =>
    by_cases hv : v = 0#8 <;> simp [Memory.write, Memory.read, hv, Ne.symm h]
  | cons p m ih =>
    obtain ⟨a, w⟩ := p
    by_cases h1 : k < a
    · by_cases hv : v = 0#8 <;> simp [Memory.write, Memory.read, h1, hv, Ne.symm h]
    · by_cases h2 : k = a
      · subst h2
        by_cases hv : v = 0#8 <;> simp [Memory.write, Memory.read, hv, Ne.symm h]
      · simp only [Memory.write, h1, h2, if_false, Memory.read, ih]

/-- A read after a write to the same cell gives the byte written. -/
theorem Memory.read_write_self {m : Memory} (hm : m.wf) (k : Nat) (v : Byte) :
    (m.write k v).read k = v := by
  induction m with
  | nil =>
    by_cases hv : v = 0#8 <;> simp [Memory.write, Memory.read, hv]
  | cons p m ih =>
    obtain ⟨a, w⟩ := p
    obtain ⟨hlt, -, hwf⟩ := Memory.wf_cons.1 hm
    by_cases h1 : k < a
    · by_cases hv : v = 0#8
      · have h3 : Memory.read m k = 0#8 :=
          Memory.read_eq_zero_of_lt fun q hq => Nat.lt_trans h1 (hlt q hq)
        have : a ≠ k := by omega
        simp [Memory.write, Memory.read, h1, hv, this, h3]
      · simp [Memory.write, Memory.read, h1, hv]
    · by_cases h2 : k = a
      · subst h2
        by_cases hv : v = 0#8
        · simpa [Memory.write, Memory.read, hv] using Memory.read_eq_zero_of_lt hlt
        · simp [Memory.write, Memory.read, hv]
      · simp only [Memory.write, h1, h2, if_false, Memory.read, Ne.symm h2, ih hwf]

theorem Memory.mem_write_lt {m : Memory} {k b : Nat} {v : Byte} (hb : b < k)
    (h : ∀ q ∈ m, b < q.1) : ∀ q ∈ Memory.write m k v, b < q.1 := by
  induction m with
  | nil => by_cases hv : v = 0#8 <;> simp [Memory.write, hv, hb]
  | cons p m ih =>
    obtain ⟨a, w⟩ := p
    have ha : b < a := h (a, w) (by simp)
    have hm : ∀ q ∈ m, b < q.1 := fun q hq => h q (by simp [hq])
    intro q hq
    simp only [Memory.write] at hq
    split at hq
    · split at hq
      · exact h q hq
      · rcases List.mem_cons.1 hq with rfl | hq
        · exact hb
        · exact h q hq
    · split at hq
      · split at hq
        · exact hm q hq
        · rcases List.mem_cons.1 hq with rfl | hq
          · exact hb
          · exact hm q hq
      · rcases List.mem_cons.1 hq with rfl | hq
        · exact ha
        · exact ih hm q hq

/-- A write keeps the canonical form. -/
theorem Memory.write_wf {m : Memory} (hm : m.wf) (k : Nat) (v : Byte) : (m.write k v).wf := by
  induction m with
  | nil => by_cases hv : v = 0#8 <;> simp [Memory.write, Memory.wf, hv]
  | cons p m ih =>
    obtain ⟨a, w⟩ := p
    obtain ⟨hlt, hw, hwf⟩ := Memory.wf_cons.1 hm
    simp only [Memory.write]
    split
    · split
      · exact hm
      · rename_i hka hv
        exact Memory.wf_cons.2 ⟨fun q hq => by
          rcases List.mem_cons.1 hq with rfl | hq
          · exact hka
          · exact Nat.lt_trans hka (hlt q hq), hv, hm⟩
    · split
      · split
        · exact hwf
        · rename_i h2 hv
          subst h2
          exact Memory.wf_cons.2 ⟨hlt, hv, hwf⟩
      · rename_i h1 h2
        exact Memory.wf_cons.2
          ⟨Memory.mem_write_lt (by simp only; omega) hlt, hw, ih hwf⟩

end Sys2Proof.Machine
end

