-- ==== Sys2Proof/Laws/Bytes.lean ====
section
/-! SUPPORT. A word and its two bytes (R7, R22, R101). -/

namespace Sys2Proof

theorem joinBytes_toNat (h l : Byte) : (joinBytes h l).toNat = h.toNat * 256 + l.toNat := by
  have hl := l.isLt
  have := BitVec.toNat_append (x := h) (y := l)
  rw [show (joinBytes h l).toNat = (h ++ l).toNat from rfl, this,
    ← Nat.shiftLeft_add_eq_or_of_lt hl, Nat.shiftLeft_eq]

theorem highByte_toNat (w : Word) : (highByte w).toNat = w.toNat / 256 := by
  have hw := w.isLt
  simp only [highByte, BitVec.extractLsb'_toNat, Nat.shiftRight_eq_div_pow]
  omega

theorem lowByte_toNat (w : Word) : (lowByte w).toNat = w.toNat % 256 := by
  simp [lowByte, BitVec.extractLsb'_toNat]

@[simp] theorem joinBytes_high_low (w : Word) : joinBytes (highByte w) (lowByte w) = w := by
  apply BitVec.eq_of_toNat_eq
  rw [joinBytes_toNat, highByte_toNat, lowByte_toNat]
  omega

@[simp] theorem highByte_joinBytes (h l : Byte) : highByte (joinBytes h l) = h := by
  apply BitVec.eq_of_toNat_eq
  have := l.isLt
  rw [highByte_toNat, joinBytes_toNat]
  omega

@[simp] theorem lowByte_joinBytes (h l : Byte) : lowByte (joinBytes h l) = l := by
  apply BitVec.eq_of_toNat_eq
  have := l.isLt
  rw [lowByte_toNat, joinBytes_toNat]
  omega

end Sys2Proof
end

