-- ==== Sys2Proof/Laws/State.lean ====
section
/-! SUPPORT. One lemma for each field of each named update, so that no proof unfolds a record update. -/

namespace Sys2Proof.Machine

/-! ## The CPU's registers in the machine -/

@[simp] theorem State.withCpu_params (s : State) (r : Cpu) : (s.withCpu r).params = s.params := rfl
@[simp] theorem State.withCpu_irq (s : State) (r : Cpu) : (s.withCpu r).irq = s.irq := rfl
@[simp] theorem State.withCpu_timer (s : State) (r : Cpu) : (s.withCpu r).timer = s.timer := rfl
@[simp] theorem State.withCpu_dma (s : State) (r : Cpu) : (s.withCpu r).dma = s.dma := rfl
@[simp] theorem State.withCpu_hdma (s : State) (r : Cpu) : (s.withCpu r).hdma = s.hdma := rfl
@[simp] theorem State.withCpu_ppu (s : State) (r : Cpu) : (s.withCpu r).ppu = s.ppu := rfl
@[simp] theorem State.withCpu_io (s : State) (r : Cpu) : (s.withCpu r).io = s.io := rfl
@[simp] theorem State.withCpu_mem (s : State) (r : Cpu) : (s.withCpu r).mem = s.mem := rfl
@[simp] theorem State.withCpu_elapsedCycles (s : State) (r : Cpu) : (s.withCpu r).elapsedCycles = s.elapsedCycles := rfl
@[simp] theorem State.withCpu_inputs (s : State) (r : Cpu) : (s.withCpu r).inputs = s.inputs := rfl
@[simp] theorem State.withCpu_calls (s : State) (r : Cpu) : (s.withCpu r).calls = s.calls := rfl
@[simp] theorem State.withCpu_cpu (s : State) (r : Cpu) : (s.withCpu r).cpu = r := rfl
@[simp] theorem State.withCpu_withCpu (s : State) (r q : Cpu) : (s.withCpu r).withCpu q = s.withCpu q := rfl
@[simp] theorem State.withCpu_self (s : State) : s.withCpu s.cpu = s := rfl

@[simp] theorem State.setReg_params (s : State) (r : Reg8) (v : Byte) : (s.setReg r v).params = s.params := rfl
@[simp] theorem State.setReg_irq (s : State) (r : Reg8) (v : Byte) : (s.setReg r v).irq = s.irq := rfl
@[simp] theorem State.setReg_timer (s : State) (r : Reg8) (v : Byte) : (s.setReg r v).timer = s.timer := rfl
@[simp] theorem State.setReg_dma (s : State) (r : Reg8) (v : Byte) : (s.setReg r v).dma = s.dma := rfl
@[simp] theorem State.setReg_hdma (s : State) (r : Reg8) (v : Byte) : (s.setReg r v).hdma = s.hdma := rfl
@[simp] theorem State.setReg_ppu (s : State) (r : Reg8) (v : Byte) : (s.setReg r v).ppu = s.ppu := rfl
@[simp] theorem State.setReg_io (s : State) (r : Reg8) (v : Byte) : (s.setReg r v).io = s.io := rfl
@[simp] theorem State.setReg_mem (s : State) (r : Reg8) (v : Byte) : (s.setReg r v).mem = s.mem := rfl
@[simp] theorem State.setReg_elapsedCycles (s : State) (r : Reg8) (v : Byte) : (s.setReg r v).elapsedCycles = s.elapsedCycles := rfl
@[simp] theorem State.setReg_inputs (s : State) (r : Reg8) (v : Byte) : (s.setReg r v).inputs = s.inputs := rfl
@[simp] theorem State.setReg_calls (s : State) (r : Reg8) (v : Byte) : (s.setReg r v).calls = s.calls := rfl
@[simp] theorem State.setReg_cpu (s : State) (r : Reg8) (v : Byte) : (s.setReg r v).cpu = s.cpu.setReg r v := rfl

@[simp] theorem State.setPair_params (s : State) (p : Pair) (w : Word) : (s.setPair p w).params = s.params := rfl
@[simp] theorem State.setPair_irq (s : State) (p : Pair) (w : Word) : (s.setPair p w).irq = s.irq := rfl
@[simp] theorem State.setPair_timer (s : State) (p : Pair) (w : Word) : (s.setPair p w).timer = s.timer := rfl
@[simp] theorem State.setPair_dma (s : State) (p : Pair) (w : Word) : (s.setPair p w).dma = s.dma := rfl
@[simp] theorem State.setPair_hdma (s : State) (p : Pair) (w : Word) : (s.setPair p w).hdma = s.hdma := rfl
@[simp] theorem State.setPair_ppu (s : State) (p : Pair) (w : Word) : (s.setPair p w).ppu = s.ppu := rfl
@[simp] theorem State.setPair_io (s : State) (p : Pair) (w : Word) : (s.setPair p w).io = s.io := rfl
@[simp] theorem State.setPair_mem (s : State) (p : Pair) (w : Word) : (s.setPair p w).mem = s.mem := rfl
@[simp] theorem State.setPair_elapsedCycles (s : State) (p : Pair) (w : Word) : (s.setPair p w).elapsedCycles = s.elapsedCycles := rfl
@[simp] theorem State.setPair_inputs (s : State) (p : Pair) (w : Word) : (s.setPair p w).inputs = s.inputs := rfl
@[simp] theorem State.setPair_calls (s : State) (p : Pair) (w : Word) : (s.setPair p w).calls = s.calls := rfl
@[simp] theorem State.setPair_cpu (s : State) (p : Pair) (w : Word) : (s.setPair p w).cpu = s.cpu.setPair p w := rfl

@[simp] theorem State.jump_params (s : State) (w : Word) : (s.jump w).params = s.params := rfl
@[simp] theorem State.jump_irq (s : State) (w : Word) : (s.jump w).irq = s.irq := rfl
@[simp] theorem State.jump_timer (s : State) (w : Word) : (s.jump w).timer = s.timer := rfl
@[simp] theorem State.jump_dma (s : State) (w : Word) : (s.jump w).dma = s.dma := rfl
@[simp] theorem State.jump_hdma (s : State) (w : Word) : (s.jump w).hdma = s.hdma := rfl
@[simp] theorem State.jump_ppu (s : State) (w : Word) : (s.jump w).ppu = s.ppu := rfl
@[simp] theorem State.jump_io (s : State) (w : Word) : (s.jump w).io = s.io := rfl
@[simp] theorem State.jump_mem (s : State) (w : Word) : (s.jump w).mem = s.mem := rfl
@[simp] theorem State.jump_elapsedCycles (s : State) (w : Word) : (s.jump w).elapsedCycles = s.elapsedCycles := rfl
@[simp] theorem State.jump_inputs (s : State) (w : Word) : (s.jump w).inputs = s.inputs := rfl
@[simp] theorem State.jump_calls (s : State) (w : Word) : (s.jump w).calls = s.calls := rfl
@[simp] theorem State.jump_cpu (s : State) (w : Word) : (s.jump w).cpu = { s.cpu with pc := w } := rfl

@[simp] theorem State.setFlags_params (s : State) (f : Flags) : (s.setFlags f).params = s.params := rfl
@[simp] theorem State.setFlags_irq (s : State) (f : Flags) : (s.setFlags f).irq = s.irq := rfl
@[simp] theorem State.setFlags_timer (s : State) (f : Flags) : (s.setFlags f).timer = s.timer := rfl
@[simp] theorem State.setFlags_dma (s : State) (f : Flags) : (s.setFlags f).dma = s.dma := rfl
@[simp] theorem State.setFlags_hdma (s : State) (f : Flags) : (s.setFlags f).hdma = s.hdma := rfl
@[simp] theorem State.setFlags_ppu (s : State) (f : Flags) : (s.setFlags f).ppu = s.ppu := rfl
@[simp] theorem State.setFlags_io (s : State) (f : Flags) : (s.setFlags f).io = s.io := rfl
@[simp] theorem State.setFlags_mem (s : State) (f : Flags) : (s.setFlags f).mem = s.mem := rfl
@[simp] theorem State.setFlags_elapsedCycles (s : State) (f : Flags) : (s.setFlags f).elapsedCycles = s.elapsedCycles := rfl
@[simp] theorem State.setFlags_inputs (s : State) (f : Flags) : (s.setFlags f).inputs = s.inputs := rfl
@[simp] theorem State.setFlags_calls (s : State) (f : Flags) : (s.setFlags f).calls = s.calls := rfl
@[simp] theorem State.setFlags_cpu (s : State) (f : Flags) : (s.setFlags f).cpu = { s.cpu with flags := f } := rfl

@[simp] theorem State.setAF_params (s : State) (x : Byte × Flags) : (s.setAF x).params = s.params := rfl
@[simp] theorem State.setAF_irq (s : State) (x : Byte × Flags) : (s.setAF x).irq = s.irq := rfl
@[simp] theorem State.setAF_timer (s : State) (x : Byte × Flags) : (s.setAF x).timer = s.timer := rfl
@[simp] theorem State.setAF_dma (s : State) (x : Byte × Flags) : (s.setAF x).dma = s.dma := rfl
@[simp] theorem State.setAF_hdma (s : State) (x : Byte × Flags) : (s.setAF x).hdma = s.hdma := rfl
@[simp] theorem State.setAF_ppu (s : State) (x : Byte × Flags) : (s.setAF x).ppu = s.ppu := rfl
@[simp] theorem State.setAF_io (s : State) (x : Byte × Flags) : (s.setAF x).io = s.io := rfl
@[simp] theorem State.setAF_mem (s : State) (x : Byte × Flags) : (s.setAF x).mem = s.mem := rfl
@[simp] theorem State.setAF_elapsedCycles (s : State) (x : Byte × Flags) : (s.setAF x).elapsedCycles = s.elapsedCycles := rfl
@[simp] theorem State.setAF_inputs (s : State) (x : Byte × Flags) : (s.setAF x).inputs = s.inputs := rfl
@[simp] theorem State.setAF_calls (s : State) (x : Byte × Flags) : (s.setAF x).calls = s.calls := rfl
@[simp] theorem State.setAF_cpu (s : State) (x : Byte × Flags) : (s.setAF x).cpu = s.cpu.setAF x := rfl

/-! ## Replacing one part -/

@[simp] theorem State.withIrq_params (s : State) (q : Irq) : (s.withIrq q).params = s.params := rfl
@[simp] theorem State.withIrq_cpu (s : State) (q : Irq) : (s.withIrq q).cpu = s.cpu := rfl
@[simp] theorem State.withIrq_timer (s : State) (q : Irq) : (s.withIrq q).timer = s.timer := rfl
@[simp] theorem State.withIrq_dma (s : State) (q : Irq) : (s.withIrq q).dma = s.dma := rfl
@[simp] theorem State.withIrq_hdma (s : State) (q : Irq) : (s.withIrq q).hdma = s.hdma := rfl
@[simp] theorem State.withIrq_ppu (s : State) (q : Irq) : (s.withIrq q).ppu = s.ppu := rfl
@[simp] theorem State.withIrq_io (s : State) (q : Irq) : (s.withIrq q).io = s.io := rfl
@[simp] theorem State.withIrq_mem (s : State) (q : Irq) : (s.withIrq q).mem = s.mem := rfl
@[simp] theorem State.withIrq_elapsedCycles (s : State) (q : Irq) : (s.withIrq q).elapsedCycles = s.elapsedCycles := rfl
@[simp] theorem State.withIrq_inputs (s : State) (q : Irq) : (s.withIrq q).inputs = s.inputs := rfl
@[simp] theorem State.withIrq_calls (s : State) (q : Irq) : (s.withIrq q).calls = s.calls := rfl
@[simp] theorem State.withIrq_irq (s : State) (q : Irq) : (s.withIrq q).irq = q := rfl

@[simp] theorem State.withTimer_params (s : State) (t : Timer) : (s.withTimer t).params = s.params := rfl
@[simp] theorem State.withTimer_cpu (s : State) (t : Timer) : (s.withTimer t).cpu = s.cpu := rfl
@[simp] theorem State.withTimer_irq (s : State) (t : Timer) : (s.withTimer t).irq = s.irq := rfl
@[simp] theorem State.withTimer_dma (s : State) (t : Timer) : (s.withTimer t).dma = s.dma := rfl
@[simp] theorem State.withTimer_hdma (s : State) (t : Timer) : (s.withTimer t).hdma = s.hdma := rfl
@[simp] theorem State.withTimer_ppu (s : State) (t : Timer) : (s.withTimer t).ppu = s.ppu := rfl
@[simp] theorem State.withTimer_io (s : State) (t : Timer) : (s.withTimer t).io = s.io := rfl
@[simp] theorem State.withTimer_mem (s : State) (t : Timer) : (s.withTimer t).mem = s.mem := rfl
@[simp] theorem State.withTimer_elapsedCycles (s : State) (t : Timer) : (s.withTimer t).elapsedCycles = s.elapsedCycles := rfl
@[simp] theorem State.withTimer_inputs (s : State) (t : Timer) : (s.withTimer t).inputs = s.inputs := rfl
@[simp] theorem State.withTimer_calls (s : State) (t : Timer) : (s.withTimer t).calls = s.calls := rfl
@[simp] theorem State.withTimer_timer (s : State) (t : Timer) : (s.withTimer t).timer = t := rfl

@[simp] theorem State.withDma_params (s : State) (d : OamDma) : (s.withDma d).params = s.params := rfl
@[simp] theorem State.withDma_cpu (s : State) (d : OamDma) : (s.withDma d).cpu = s.cpu := rfl
@[simp] theorem State.withDma_irq (s : State) (d : OamDma) : (s.withDma d).irq = s.irq := rfl
@[simp] theorem State.withDma_timer (s : State) (d : OamDma) : (s.withDma d).timer = s.timer := rfl
@[simp] theorem State.withDma_hdma (s : State) (d : OamDma) : (s.withDma d).hdma = s.hdma := rfl
@[simp] theorem State.withDma_ppu (s : State) (d : OamDma) : (s.withDma d).ppu = s.ppu := rfl
@[simp] theorem State.withDma_io (s : State) (d : OamDma) : (s.withDma d).io = s.io := rfl
@[simp] theorem State.withDma_mem (s : State) (d : OamDma) : (s.withDma d).mem = s.mem := rfl
@[simp] theorem State.withDma_elapsedCycles (s : State) (d : OamDma) : (s.withDma d).elapsedCycles = s.elapsedCycles := rfl
@[simp] theorem State.withDma_inputs (s : State) (d : OamDma) : (s.withDma d).inputs = s.inputs := rfl
@[simp] theorem State.withDma_calls (s : State) (d : OamDma) : (s.withDma d).calls = s.calls := rfl
@[simp] theorem State.withDma_dma (s : State) (d : OamDma) : (s.withDma d).dma = d := rfl

@[simp] theorem State.withHdma_params (s : State) (h : Hdma) : (s.withHdma h).params = s.params := rfl
@[simp] theorem State.withHdma_cpu (s : State) (h : Hdma) : (s.withHdma h).cpu = s.cpu := rfl
@[simp] theorem State.withHdma_irq (s : State) (h : Hdma) : (s.withHdma h).irq = s.irq := rfl
@[simp] theorem State.withHdma_timer (s : State) (h : Hdma) : (s.withHdma h).timer = s.timer := rfl
@[simp] theorem State.withHdma_dma (s : State) (h : Hdma) : (s.withHdma h).dma = s.dma := rfl
@[simp] theorem State.withHdma_ppu (s : State) (h : Hdma) : (s.withHdma h).ppu = s.ppu := rfl
@[simp] theorem State.withHdma_io (s : State) (h : Hdma) : (s.withHdma h).io = s.io := rfl
@[simp] theorem State.withHdma_mem (s : State) (h : Hdma) : (s.withHdma h).mem = s.mem := rfl
@[simp] theorem State.withHdma_elapsedCycles (s : State) (h : Hdma) : (s.withHdma h).elapsedCycles = s.elapsedCycles := rfl
@[simp] theorem State.withHdma_inputs (s : State) (h : Hdma) : (s.withHdma h).inputs = s.inputs := rfl
@[simp] theorem State.withHdma_calls (s : State) (h : Hdma) : (s.withHdma h).calls = s.calls := rfl
@[simp] theorem State.withHdma_hdma (s : State) (h : Hdma) : (s.withHdma h).hdma = h := rfl

@[simp] theorem State.withPpu_params (s : State) (p : Ppu) : (s.withPpu p).params = s.params := rfl
@[simp] theorem State.withPpu_cpu (s : State) (p : Ppu) : (s.withPpu p).cpu = s.cpu := rfl
@[simp] theorem State.withPpu_irq (s : State) (p : Ppu) : (s.withPpu p).irq = s.irq := rfl
@[simp] theorem State.withPpu_timer (s : State) (p : Ppu) : (s.withPpu p).timer = s.timer := rfl
@[simp] theorem State.withPpu_dma (s : State) (p : Ppu) : (s.withPpu p).dma = s.dma := rfl
@[simp] theorem State.withPpu_hdma (s : State) (p : Ppu) : (s.withPpu p).hdma = s.hdma := rfl
@[simp] theorem State.withPpu_io (s : State) (p : Ppu) : (s.withPpu p).io = s.io := rfl
@[simp] theorem State.withPpu_mem (s : State) (p : Ppu) : (s.withPpu p).mem = s.mem := rfl
@[simp] theorem State.withPpu_elapsedCycles (s : State) (p : Ppu) : (s.withPpu p).elapsedCycles = s.elapsedCycles := rfl
@[simp] theorem State.withPpu_inputs (s : State) (p : Ppu) : (s.withPpu p).inputs = s.inputs := rfl
@[simp] theorem State.withPpu_calls (s : State) (p : Ppu) : (s.withPpu p).calls = s.calls := rfl
@[simp] theorem State.withPpu_ppu (s : State) (p : Ppu) : (s.withPpu p).ppu = p := rfl

@[simp] theorem State.withIo_params (s : State) (l : IoLatches) : (s.withIo l).params = s.params := rfl
@[simp] theorem State.withIo_cpu (s : State) (l : IoLatches) : (s.withIo l).cpu = s.cpu := rfl
@[simp] theorem State.withIo_irq (s : State) (l : IoLatches) : (s.withIo l).irq = s.irq := rfl
@[simp] theorem State.withIo_timer (s : State) (l : IoLatches) : (s.withIo l).timer = s.timer := rfl
@[simp] theorem State.withIo_dma (s : State) (l : IoLatches) : (s.withIo l).dma = s.dma := rfl
@[simp] theorem State.withIo_hdma (s : State) (l : IoLatches) : (s.withIo l).hdma = s.hdma := rfl
@[simp] theorem State.withIo_ppu (s : State) (l : IoLatches) : (s.withIo l).ppu = s.ppu := rfl
@[simp] theorem State.withIo_mem (s : State) (l : IoLatches) : (s.withIo l).mem = s.mem := rfl
@[simp] theorem State.withIo_elapsedCycles (s : State) (l : IoLatches) : (s.withIo l).elapsedCycles = s.elapsedCycles := rfl
@[simp] theorem State.withIo_inputs (s : State) (l : IoLatches) : (s.withIo l).inputs = s.inputs := rfl
@[simp] theorem State.withIo_calls (s : State) (l : IoLatches) : (s.withIo l).calls = s.calls := rfl
@[simp] theorem State.withIo_io (s : State) (l : IoLatches) : (s.withIo l).io = l := rfl

@[simp] theorem State.withMem_params (s : State) (m : Memory) : (s.withMem m).params = s.params := rfl
@[simp] theorem State.withMem_cpu (s : State) (m : Memory) : (s.withMem m).cpu = s.cpu := rfl
@[simp] theorem State.withMem_irq (s : State) (m : Memory) : (s.withMem m).irq = s.irq := rfl
@[simp] theorem State.withMem_timer (s : State) (m : Memory) : (s.withMem m).timer = s.timer := rfl
@[simp] theorem State.withMem_dma (s : State) (m : Memory) : (s.withMem m).dma = s.dma := rfl
@[simp] theorem State.withMem_hdma (s : State) (m : Memory) : (s.withMem m).hdma = s.hdma := rfl
@[simp] theorem State.withMem_ppu (s : State) (m : Memory) : (s.withMem m).ppu = s.ppu := rfl
@[simp] theorem State.withMem_io (s : State) (m : Memory) : (s.withMem m).io = s.io := rfl
@[simp] theorem State.withMem_elapsedCycles (s : State) (m : Memory) : (s.withMem m).elapsedCycles = s.elapsedCycles := rfl
@[simp] theorem State.withMem_inputs (s : State) (m : Memory) : (s.withMem m).inputs = s.inputs := rfl
@[simp] theorem State.withMem_calls (s : State) (m : Memory) : (s.withMem m).calls = s.calls := rfl
@[simp] theorem State.withMem_mem (s : State) (m : Memory) : (s.withMem m).mem = m := rfl

@[simp] theorem State.withElapsed_params (s : State) (n : Nat) : (s.withElapsed n).params = s.params := rfl
@[simp] theorem State.withElapsed_cpu (s : State) (n : Nat) : (s.withElapsed n).cpu = s.cpu := rfl
@[simp] theorem State.withElapsed_irq (s : State) (n : Nat) : (s.withElapsed n).irq = s.irq := rfl
@[simp] theorem State.withElapsed_timer (s : State) (n : Nat) : (s.withElapsed n).timer = s.timer := rfl
@[simp] theorem State.withElapsed_dma (s : State) (n : Nat) : (s.withElapsed n).dma = s.dma := rfl
@[simp] theorem State.withElapsed_hdma (s : State) (n : Nat) : (s.withElapsed n).hdma = s.hdma := rfl
@[simp] theorem State.withElapsed_ppu (s : State) (n : Nat) : (s.withElapsed n).ppu = s.ppu := rfl
@[simp] theorem State.withElapsed_io (s : State) (n : Nat) : (s.withElapsed n).io = s.io := rfl
@[simp] theorem State.withElapsed_mem (s : State) (n : Nat) : (s.withElapsed n).mem = s.mem := rfl
@[simp] theorem State.withElapsed_inputs (s : State) (n : Nat) : (s.withElapsed n).inputs = s.inputs := rfl
@[simp] theorem State.withElapsed_calls (s : State) (n : Nat) : (s.withElapsed n).calls = s.calls := rfl
@[simp] theorem State.withElapsed_elapsedCycles (s : State) (n : Nat) : (s.withElapsed n).elapsedCycles = n := rfl

@[simp] theorem State.withInputs_params (s : State) (l : List HostInput) : (s.withInputs l).params = s.params := rfl
@[simp] theorem State.withInputs_cpu (s : State) (l : List HostInput) : (s.withInputs l).cpu = s.cpu := rfl
@[simp] theorem State.withInputs_irq (s : State) (l : List HostInput) : (s.withInputs l).irq = s.irq := rfl
@[simp] theorem State.withInputs_timer (s : State) (l : List HostInput) : (s.withInputs l).timer = s.timer := rfl
@[simp] theorem State.withInputs_dma (s : State) (l : List HostInput) : (s.withInputs l).dma = s.dma := rfl
@[simp] theorem State.withInputs_hdma (s : State) (l : List HostInput) : (s.withInputs l).hdma = s.hdma := rfl
@[simp] theorem State.withInputs_ppu (s : State) (l : List HostInput) : (s.withInputs l).ppu = s.ppu := rfl
@[simp] theorem State.withInputs_io (s : State) (l : List HostInput) : (s.withInputs l).io = s.io := rfl
@[simp] theorem State.withInputs_mem (s : State) (l : List HostInput) : (s.withInputs l).mem = s.mem := rfl
@[simp] theorem State.withInputs_elapsedCycles (s : State) (l : List HostInput) : (s.withInputs l).elapsedCycles = s.elapsedCycles := rfl
@[simp] theorem State.withInputs_calls (s : State) (l : List HostInput) : (s.withInputs l).calls = s.calls := rfl
@[simp] theorem State.withInputs_inputs (s : State) (l : List HostInput) : (s.withInputs l).inputs = l := rfl

@[simp] theorem State.withCalls_params (s : State) (l : List HostCall) : (s.withCalls l).params = s.params := rfl
@[simp] theorem State.withCalls_cpu (s : State) (l : List HostCall) : (s.withCalls l).cpu = s.cpu := rfl
@[simp] theorem State.withCalls_irq (s : State) (l : List HostCall) : (s.withCalls l).irq = s.irq := rfl
@[simp] theorem State.withCalls_timer (s : State) (l : List HostCall) : (s.withCalls l).timer = s.timer := rfl
@[simp] theorem State.withCalls_dma (s : State) (l : List HostCall) : (s.withCalls l).dma = s.dma := rfl
@[simp] theorem State.withCalls_hdma (s : State) (l : List HostCall) : (s.withCalls l).hdma = s.hdma := rfl
@[simp] theorem State.withCalls_ppu (s : State) (l : List HostCall) : (s.withCalls l).ppu = s.ppu := rfl
@[simp] theorem State.withCalls_io (s : State) (l : List HostCall) : (s.withCalls l).io = s.io := rfl
@[simp] theorem State.withCalls_mem (s : State) (l : List HostCall) : (s.withCalls l).mem = s.mem := rfl
@[simp] theorem State.withCalls_elapsedCycles (s : State) (l : List HostCall) : (s.withCalls l).elapsedCycles = s.elapsedCycles := rfl
@[simp] theorem State.withCalls_inputs (s : State) (l : List HostCall) : (s.withCalls l).inputs = s.inputs := rfl
@[simp] theorem State.withCalls_calls (s : State) (l : List HostCall) : (s.withCalls l).calls = l := rfl

@[simp] theorem State.record_params (s : State) (c : HostCall) : (s.record c).params = s.params := rfl
@[simp] theorem State.record_cpu (s : State) (c : HostCall) : (s.record c).cpu = s.cpu := rfl
@[simp] theorem State.record_irq (s : State) (c : HostCall) : (s.record c).irq = s.irq := rfl
@[simp] theorem State.record_timer (s : State) (c : HostCall) : (s.record c).timer = s.timer := rfl
@[simp] theorem State.record_dma (s : State) (c : HostCall) : (s.record c).dma = s.dma := rfl
@[simp] theorem State.record_hdma (s : State) (c : HostCall) : (s.record c).hdma = s.hdma := rfl
@[simp] theorem State.record_ppu (s : State) (c : HostCall) : (s.record c).ppu = s.ppu := rfl
@[simp] theorem State.record_io (s : State) (c : HostCall) : (s.record c).io = s.io := rfl
@[simp] theorem State.record_mem (s : State) (c : HostCall) : (s.record c).mem = s.mem := rfl
@[simp] theorem State.record_elapsedCycles (s : State) (c : HostCall) : (s.record c).elapsedCycles = s.elapsedCycles := rfl
@[simp] theorem State.record_inputs (s : State) (c : HostCall) : (s.record c).inputs = s.inputs := rfl
@[simp] theorem State.record_calls (s : State) (c : HostCall) : (s.record c).calls = c :: s.calls := rfl

@[simp] theorem State.audioStep_params (s : State) : s.audioStep.params = s.params := rfl
@[simp] theorem State.audioStep_cpu (s : State) : s.audioStep.cpu = s.cpu := rfl
@[simp] theorem State.audioStep_irq (s : State) : s.audioStep.irq = s.irq := rfl
@[simp] theorem State.audioStep_timer (s : State) : s.audioStep.timer = s.timer := rfl
@[simp] theorem State.audioStep_dma (s : State) : s.audioStep.dma = s.dma := rfl
@[simp] theorem State.audioStep_hdma (s : State) : s.audioStep.hdma = s.hdma := rfl
@[simp] theorem State.audioStep_ppu (s : State) : s.audioStep.ppu = s.ppu := rfl
@[simp] theorem State.audioStep_io (s : State) : s.audioStep.io = s.io := rfl
@[simp] theorem State.audioStep_mem (s : State) : s.audioStep.mem = s.mem := rfl
@[simp] theorem State.audioStep_elapsedCycles (s : State) : s.audioStep.elapsedCycles = s.elapsedCycles := rfl
@[simp] theorem State.audioStep_inputs (s : State) : s.audioStep.inputs = s.inputs := rfl

/-! ## The interrupt flags -/

@[simp] theorem State.request_params (s : State) (i : Fin 5) : (s.request i).params = s.params := rfl
@[simp] theorem State.request_cpu (s : State) (i : Fin 5) : (s.request i).cpu = s.cpu := rfl
@[simp] theorem State.request_timer (s : State) (i : Fin 5) : (s.request i).timer = s.timer := rfl
@[simp] theorem State.request_dma (s : State) (i : Fin 5) : (s.request i).dma = s.dma := rfl
@[simp] theorem State.request_hdma (s : State) (i : Fin 5) : (s.request i).hdma = s.hdma := rfl
@[simp] theorem State.request_ppu (s : State) (i : Fin 5) : (s.request i).ppu = s.ppu := rfl
@[simp] theorem State.request_io (s : State) (i : Fin 5) : (s.request i).io = s.io := rfl
@[simp] theorem State.request_mem (s : State) (i : Fin 5) : (s.request i).mem = s.mem := rfl
@[simp] theorem State.request_elapsedCycles (s : State) (i : Fin 5) : (s.request i).elapsedCycles = s.elapsedCycles := rfl
@[simp] theorem State.request_inputs (s : State) (i : Fin 5) : (s.request i).inputs = s.inputs := rfl
@[simp] theorem State.request_calls (s : State) (i : Fin 5) : (s.request i).calls = s.calls := rfl
@[simp] theorem State.request_ie (s : State) (i : Fin 5) : (s.request i).irq.ie = s.irq.ie := rfl

@[simp] theorem State.clear_params (s : State) (i : Fin 5) : (s.clear i).params = s.params := rfl
@[simp] theorem State.clear_cpu (s : State) (i : Fin 5) : (s.clear i).cpu = s.cpu := rfl
@[simp] theorem State.clear_timer (s : State) (i : Fin 5) : (s.clear i).timer = s.timer := rfl
@[simp] theorem State.clear_dma (s : State) (i : Fin 5) : (s.clear i).dma = s.dma := rfl
@[simp] theorem State.clear_hdma (s : State) (i : Fin 5) : (s.clear i).hdma = s.hdma := rfl
@[simp] theorem State.clear_ppu (s : State) (i : Fin 5) : (s.clear i).ppu = s.ppu := rfl
@[simp] theorem State.clear_io (s : State) (i : Fin 5) : (s.clear i).io = s.io := rfl
@[simp] theorem State.clear_mem (s : State) (i : Fin 5) : (s.clear i).mem = s.mem := rfl
@[simp] theorem State.clear_elapsedCycles (s : State) (i : Fin 5) : (s.clear i).elapsedCycles = s.elapsedCycles := rfl
@[simp] theorem State.clear_inputs (s : State) (i : Fin 5) : (s.clear i).inputs = s.inputs := rfl
@[simp] theorem State.clear_calls (s : State) (i : Fin 5) : (s.clear i).calls = s.calls := rfl
@[simp] theorem State.clear_ie (s : State) (i : Fin 5) : (s.clear i).irq.ie = s.irq.ie := rfl

/-! ## The registers themselves -/

@[simp] theorem Cpu.setReg_flags (r : Cpu) (x : Reg8) (v : Byte) : (r.setReg x v).flags = r.flags := by cases x <;> rfl
@[simp] theorem Cpu.setReg_sp (r : Cpu) (x : Reg8) (v : Byte) : (r.setReg x v).sp = r.sp := by cases x <;> rfl
@[simp] theorem Cpu.setReg_pc (r : Cpu) (x : Reg8) (v : Byte) : (r.setReg x v).pc = r.pc := by cases x <;> rfl
@[simp] theorem Cpu.setReg_ime (r : Cpu) (x : Reg8) (v : Byte) : (r.setReg x v).ime = r.ime := by cases x <;> rfl
@[simp] theorem Cpu.setReg_eiCounter (r : Cpu) (x : Reg8) (v : Byte) : (r.setReg x v).eiCounter = r.eiCounter := by cases x <;> rfl
@[simp] theorem Cpu.setReg_halted (r : Cpu) (x : Reg8) (v : Byte) : (r.setReg x v).halted = r.halted := by cases x <;> rfl
@[simp] theorem Cpu.setReg_stopped (r : Cpu) (x : Reg8) (v : Byte) : (r.setReg x v).stopped = r.stopped := by cases x <;> rfl
@[simp] theorem Cpu.setReg_haltBug (r : Cpu) (x : Reg8) (v : Byte) : (r.setReg x v).haltBug = r.haltBug := by cases x <;> rfl

@[simp] theorem Cpu.setPair_flags (r : Cpu) (p : Pair) (w : Word) : (r.setPair p w).flags = r.flags := by cases p <;> rfl
@[simp] theorem Cpu.setPair_pc (r : Cpu) (p : Pair) (w : Word) : (r.setPair p w).pc = r.pc := by cases p <;> rfl
@[simp] theorem Cpu.setPair_ime (r : Cpu) (p : Pair) (w : Word) : (r.setPair p w).ime = r.ime := by cases p <;> rfl
@[simp] theorem Cpu.setPair_eiCounter (r : Cpu) (p : Pair) (w : Word) : (r.setPair p w).eiCounter = r.eiCounter := by cases p <;> rfl
@[simp] theorem Cpu.setPair_halted (r : Cpu) (p : Pair) (w : Word) : (r.setPair p w).halted = r.halted := by cases p <;> rfl
@[simp] theorem Cpu.setPair_stopped (r : Cpu) (p : Pair) (w : Word) : (r.setPair p w).stopped = r.stopped := by cases p <;> rfl
@[simp] theorem Cpu.setPair_haltBug (r : Cpu) (p : Pair) (w : Word) : (r.setPair p w).haltBug = r.haltBug := by cases p <;> rfl

@[simp] theorem Cpu.setStackPair_sp (r : Cpu) (p : StackPair) (w : Word) : (r.setStackPair p w).sp = r.sp := by cases p <;> rfl
@[simp] theorem Cpu.setStackPair_pc (r : Cpu) (p : StackPair) (w : Word) : (r.setStackPair p w).pc = r.pc := by cases p <;> rfl
@[simp] theorem Cpu.setStackPair_ime (r : Cpu) (p : StackPair) (w : Word) : (r.setStackPair p w).ime = r.ime := by cases p <;> rfl
@[simp] theorem Cpu.setStackPair_eiCounter (r : Cpu) (p : StackPair) (w : Word) : (r.setStackPair p w).eiCounter = r.eiCounter := by cases p <;> rfl
@[simp] theorem Cpu.setStackPair_halted (r : Cpu) (p : StackPair) (w : Word) : (r.setStackPair p w).halted = r.halted := by cases p <;> rfl
@[simp] theorem Cpu.setStackPair_stopped (r : Cpu) (p : StackPair) (w : Word) : (r.setStackPair p w).stopped = r.stopped := by cases p <;> rfl
@[simp] theorem Cpu.setStackPair_haltBug (r : Cpu) (p : StackPair) (w : Word) : (r.setStackPair p w).haltBug = r.haltBug := by cases p <;> rfl

@[simp] theorem Cpu.setAF_sp (r : Cpu) (x : Byte × Flags) : (r.setAF x).sp = r.sp := rfl
@[simp] theorem Cpu.setAF_pc (r : Cpu) (x : Byte × Flags) : (r.setAF x).pc = r.pc := rfl
@[simp] theorem Cpu.setAF_ime (r : Cpu) (x : Byte × Flags) : (r.setAF x).ime = r.ime := rfl
@[simp] theorem Cpu.setAF_eiCounter (r : Cpu) (x : Byte × Flags) : (r.setAF x).eiCounter = r.eiCounter := rfl
@[simp] theorem Cpu.setAF_halted (r : Cpu) (x : Byte × Flags) : (r.setAF x).halted = r.halted := rfl
@[simp] theorem Cpu.setAF_stopped (r : Cpu) (x : Byte × Flags) : (r.setAF x).stopped = r.stopped := rfl
@[simp] theorem Cpu.setAF_haltBug (r : Cpu) (x : Byte × Flags) : (r.setAF x).haltBug = r.haltBug := rfl

@[simp] theorem Cpu.setAF_a (r : Cpu) (x : Byte × Flags) : (r.setAF x).a = x.1 := rfl
@[simp] theorem Cpu.setAF_flags (r : Cpu) (x : Byte × Flags) : (r.setAF x).flags = x.2 := rfl

/-- A register reads what was written to it. -/
@[simp] theorem Cpu.reg_setReg_self (r : Cpu) (x : Reg8) (v : Byte) : (r.setReg x v).reg x = v := by
  cases x <;> rfl

/-- Writing one register leaves the others. -/
theorem Cpu.reg_setReg_other (r : Cpu) {x y : Reg8} (v : Byte) (h : y ≠ x) :
    (r.setReg x v).reg y = r.reg y := by
  cases x <;> cases y <;> first | rfl | exact absurd rfl h

/-- A pair reads what was written to it (R22). -/
@[simp] theorem Cpu.pair_setPair_self (r : Cpu) (p : Pair) (w : Word) : (r.setPair p w).pair p = w := by
  cases p <;> simp [Cpu.setPair, Cpu.pair, Cpu.bc, Cpu.de, Cpu.hl, Cpu.setHL]

/-! ## The same part replaced twice -/

@[simp] theorem State.withIrq_withIrq (s : State) (p q : Irq) : (s.withIrq p).withIrq q = s.withIrq q := rfl
@[simp] theorem State.withTimer_withTimer (s : State) (p q : Timer) : (s.withTimer p).withTimer q = s.withTimer q := rfl
@[simp] theorem State.withDma_withDma (s : State) (p q : OamDma) : (s.withDma p).withDma q = s.withDma q := rfl
@[simp] theorem State.withHdma_withHdma (s : State) (p q : Hdma) : (s.withHdma p).withHdma q = s.withHdma q := rfl
@[simp] theorem State.withPpu_withPpu (s : State) (p q : Ppu) : (s.withPpu p).withPpu q = s.withPpu q := rfl
@[simp] theorem State.withIo_withIo (s : State) (p q : IoLatches) : (s.withIo p).withIo q = s.withIo q := rfl
@[simp] theorem State.withMem_withMem (s : State) (p q : Memory) : (s.withMem p).withMem q = s.withMem q := rfl

end Sys2Proof.Machine
end

