-- ==== Sys2Proof/Laws/Ticks.lean ====
section
/-! SUPPORT. What the devices' part of a tick and the scheduler leave unchanged. -/

namespace Sys2Proof.Machine

/-! ## The frame of everything that is not a CPU store -/

/-- Nothing is stored between `s` and `t`: settings and memory are as before but for running
transfers, no transfer starts, no pending request is lost, and memory stays canonical. -/
structure State.Frame (s t : State) : Prop where
  settings : t.settings = s.settings
  mem      : ∀ k, ¬ s.EngineCell k → t.mem.read k = s.mem.read k
  engine   : ∀ k, t.EngineCell k → s.EngineCell k
  pending  : ∀ i, s.irq.flags.getLsbD i = true → t.irq.flags.getLsbD i = true
  wf       : s.mem.wf → t.mem.wf

theorem State.Frame.refl (s : State) : s.Frame s :=
  ⟨rfl, fun _ _ => rfl, fun _ h => h, fun _ h => h, id⟩

theorem State.Frame.trans {s t u : State} (h : s.Frame t) (g : t.Frame u) : s.Frame u where
  settings := g.settings.trans h.settings
  mem k hk := (g.mem k fun e => hk (h.engine k e)).trans (h.mem k hk)
  engine k e := h.engine k (g.engine k e)
  pending i hi := g.pending i (h.pending i hi)
  wf hs := g.wf (h.wf hs)

theorem State.Frame.stores {s t : State} (h : s.Frame t) : s.StoresNothing t :=
  ⟨h.settings, h.mem, h.pending⟩

/-- A change of the CPU's registers stores nothing. -/
theorem State.Frame.withCpu {s t : State} (h : s.Frame t) (r : Cpu) : s.Frame (t.withCpu r) :=
  h.trans ⟨rfl, fun _ _ => rfl, fun _ e => e, fun _ e => e, id⟩

/-- A frame for a step that touches neither memory, nor transfers, nor settings. -/
theorem State.Frame.of_same {s t : State} (settings : t.settings = s.settings) (mem : t.mem = s.mem)
    (dma : t.dma.state = s.dma.state) (hdma : t.hdma.state = s.hdma.state)
    (pending : ∀ i, s.irq.flags.getLsbD i = true → t.irq.flags.getLsbD i = true) : s.Frame t where
  settings := settings
  mem k _ := by rw [mem]
  engine k e := by
    have hp : t.params = s.params := congrArg Settings.params settings
    simpa only [State.EngineCell, dma, hdma, hp] using e
  pending := pending
  wf h := by rwa [mem]

theorem State.request_pending (s : State) (n : Fin 5) (i : Nat) (h : s.irq.flags.getLsbD i = true) :
    (s.request n).irq.flags.getLsbD i = true := by
  simp [State.request, h]

theorem State.request_frame (s : State) (n : Fin 5) : s.Frame (s.request n) :=
  .of_same rfl rfl rfl rfl fun i h => s.request_pending n i h

/-! ## The STAT line and the PPU -/

/-- PPU registers may change as long as the program-written ones do not. -/
theorem State.withPpu_frame (s : State) (p : Ppu) (h : (s.withPpu p).settings = s.settings) :
    s.Frame (s.withPpu p) :=
  .of_same h rfl rfl rfl fun _ h => h

theorem State.record_frame (s : State) (c : HostCall) : s.Frame (s.record c) :=
  .of_same rfl rfl rfl rfl fun _ h => h

@[simp] theorem State.updateStatLine_cpu (s : State) : s.updateStatLine.cpu = s.cpu := by
  unfold State.updateStatLine; dsimp only; split <;> rfl

theorem State.updateStatLine_frame (s : State) : s.Frame s.updateStatLine := by
  unfold State.updateStatLine
  dsimp only
  split
  · refine State.Frame.trans (s.withPpu_frame _ ?_) (State.request_frame _ 1); rfl
  · exact s.withPpu_frame _ rfl

@[simp] theorem State.enterMode_cpu (s : State) (m : Mode) : (s.enterMode m).cpu = s.cpu := by
  cases m <;> rfl

theorem State.enterMode_frame (s : State) (m : Mode) : s.Frame (s.enterMode m) := by
  cases m
  · exact s.record_frame _
  · exact (s.request_frame 0).trans (State.record_frame _ _)
  · exact .refl s
  · exact .refl s

@[simp] theorem State.latchLength_cpu (s : State) : s.latchLength.cpu = s.cpu := by
  unfold State.latchLength; split <;> rfl

theorem State.latchLength_frame (s : State) : s.Frame s.latchLength := by
  unfold State.latchLength
  split
  · exact s.withPpu_frame _ rfl
  · exact .refl s

@[simp] theorem State.changeMode_cpu (s : State) (m : Mode) : (s.changeMode m).cpu = s.cpu := by
  unfold State.changeMode; split <;> simp

theorem State.changeMode_frame (s : State) (m : Mode) : s.Frame (s.changeMode m) := by
  unfold State.changeMode
  split
  · exact .refl s
  · refine State.Frame.trans (s.withPpu_frame _ ?_) (State.enterMode_frame _ m); rfl

@[simp] theorem State.ppuStep_cpu (s : State) : s.ppuStep.cpu = s.cpu := by
  unfold State.ppuStep; dsimp only; split <;> simp

theorem State.ppuStep_frame (s : State) : s.Frame s.ppuStep := by
  unfold State.ppuStep
  dsimp only
  split
  · have adv : s.Frame (s.withPpu s.ppu.advance) :=
      s.withPpu_frame _ (by simp only [State.settings, Ppu.advance, State.withPpu]; split <;> rfl)
    exact ((adv.trans (State.latchLength_frame _)).trans (State.changeMode_frame _ _)).trans
      (State.updateStatLine_frame _)
  · refine State.Frame.trans (s.withPpu_frame _ ?_) (State.updateStatLine_frame _); rfl

/-! ## The timer -/

@[simp] theorem Timer.increment_tma (t : Timer) : t.increment.tma = t.tma := by
  unfold Timer.increment; split <;> (try split) <;> rfl
@[simp] theorem Timer.increment_tac (t : Timer) : t.increment.tac = t.tac := by
  unfold Timer.increment; split <;> (try split) <;> rfl
@[simp] theorem Timer.increment_counter (t : Timer) : t.increment.counter = t.counter := by
  unfold Timer.increment; split <;> (try split) <;> rfl
@[simp] theorem Timer.advance_tma (t : Timer) : t.advance.tma = t.tma := by
  unfold Timer.advance; dsimp only; split <;> simp
@[simp] theorem Timer.advance_tac (t : Timer) : t.advance.tac = t.tac := by
  unfold Timer.advance; dsimp only; split <;> simp
@[simp] theorem Timer.advance_counter (t : Timer) : t.advance.counter = t.counter + 4 := by
  unfold Timer.advance; dsimp only; split <;> simp

@[simp] theorem State.timerStep_cpu (s : State) : s.timerStep.cpu = s.cpu := by
  unfold State.timerStep; dsimp only; split <;> rfl

theorem State.timerStep_frame (s : State) : s.Frame s.timerStep := by
  have adv : s.Frame (s.withTimer s.timer.reload.advance) :=
    .of_same (by simp [State.settings, Timer.reload]) rfl rfl rfl fun _ h => h
  unfold State.timerStep
  dsimp only
  split
  · exact adv.trans (State.request_frame _ 2)
  · exact adv

/-! ## The transfer engines -/

@[simp] theorem State.dmaCopyOne_cpu (s : State) : s.dmaCopyOne.cpu = s.cpu := by
  unfold State.dmaCopyOne; split <;> rfl

@[simp] theorem State.dmaCopyOne_page (s : State) : s.dmaCopyOne.dma.page = s.dma.page := by
  unfold State.dmaCopyOne; split <;> rfl

@[simp] theorem State.dmaStep_cpu (s : State) : s.dmaStep.cpu = s.cpu := by
  unfold State.dmaStep
  split
  · dsimp only; split <;> simp
  · simp
  · simp
  · simp

/-- A change of the DMA engine's registers starts no transfer that was stopped. -/
theorem State.Frame.withDma {s t : State} (h : s.Frame t) (d : OamDma) (hp : d.page = t.dma.page)
    (hs : s.dma.state ≠ .stopped ∨ d.state = .stopped) : s.Frame (t.withDma d) where
  settings := by rw [← h.settings]; simp only [State.settings, State.withDma, hp]
  mem := h.mem
  engine k e := by
    rcases e with ⟨e1, e2⟩ | e
    · rcases hs with hs | hs
      · exact .inl ⟨hs, e2⟩
      · exact absurd hs e1
    · exact h.engine k (.inr e)
  pending := h.pending
  wf := h.wf

theorem oamCell_isOamCell {i : Nat} (h : i < 160) : IsOamCell (oamCell i) := by
  unfold IsOamCell oamCell; omega

theorem vramCell_isVramCell (bank a : Nat) : IsVramCell (vramCell bank a) := by
  unfold IsVramCell vramCell; omega

/-- An engine's write stays in the cells its transfer owns. -/
theorem State.withMem_frame (s : State) {k : Nat} (v : Byte) (hk : s.EngineCell k) :
    s.Frame (s.withMem (s.mem.write k v)) where
  settings := rfl
  mem _ hj := Memory.read_write_other _ _ fun e => hj (e ▸ hk)
  engine _ e := e
  pending _ h := h
  wf h := Memory.write_wf h _ _

theorem State.dmaCopyOne_frame (s : State) (h : s.dma.state ≠ .stopped) : s.Frame s.dmaCopyOne := by
  unfold State.dmaCopyOne
  split
  · rename_i hi
    exact (s.withMem_frame _ (.inl ⟨h, oamCell_isOamCell hi⟩)).withDma _ rfl (.inl h)
  · exact .refl s

theorem State.dmaStep_frame (s : State) : s.Frame s.dmaStep := by
  unfold State.dmaStep
  split
  · rename_i hs
    have hn : s.dma.state ≠ .stopped := by rw [hs]; decide
    dsimp only
    split
    · exact (s.dmaCopyOne_frame hn).withDma _ rfl (.inl hn)
    · exact (State.Frame.refl s).withDma _ rfl (.inl hn)
  · rename_i hs
    exact (State.Frame.refl s).withDma _ rfl (.inl (by rw [hs]; decide))
  · rename_i hs
    have hn : s.dma.state ≠ .stopped := by rw [hs]; decide
    exact (s.dmaCopyOne_frame hn).withDma _ rfl (.inl hn)
  · rename_i hs
    exact (State.Frame.refl s).withDma _ rfl (.inr hs)

@[simp] theorem State.hdmaCopyOne_cpu (s : State) : s.hdmaCopyOne.cpu = s.cpu := rfl
@[simp] theorem State.hdmaCopyTwo_cpu (s : State) : s.hdmaCopyTwo.cpu = s.cpu := rfl

/-- A change of HDMA's registers starts no transfer that was stopped. -/
theorem State.Frame.withHdma {s t : State} (h : s.Frame t) (d : Hdma) (hm : d.mode = t.hdma.mode)
    (hs : s.hdma.state ≠ .stopped ∨ d.state = .stopped) : s.Frame (t.withHdma d) where
  settings := by rw [← h.settings]; simp only [State.settings, State.withHdma, hm]
  mem := h.mem
  engine k e := by
    have hp : t.params = s.params := congrArg Settings.params h.settings
    rcases e with e | ⟨e1, e2, e3⟩
    · exact h.engine k (.inl e)
    · rcases hs with hs | hs
      · exact .inr ⟨hp ▸ e1, hs, e3⟩
      · exact absurd hs e2
  pending := h.pending
  wf := h.wf

theorem State.hdmaCopyOne_frame (s : State) (he : s.params.enhanced = true)
    (hs : s.hdma.state ≠ .stopped) : s.Frame s.hdmaCopyOne :=
  (s.withMem_frame _ (.inr ⟨he, hs, vramCell_isVramCell _ _⟩)).withHdma _ rfl (.inl hs)

theorem State.hdmaCopyTwo_frame (s : State) (he : s.params.enhanced = true)
    (hs : s.hdma.state ≠ .stopped) : s.Frame s.hdmaCopyTwo :=
  ((s.hdmaCopyOne_frame he hs).trans (s.hdmaCopyOne.hdmaCopyOne_frame he hs)).withHdma _ rfl (.inl hs)

@[simp] theorem State.hdmaGeneralStep_cpu (s : State) : s.hdmaGeneralStep.cpu = s.cpu := by
  unfold State.hdmaGeneralStep; dsimp only; split <;> simp

@[simp] theorem State.hdmaBlockStep_cpu (s : State) : s.hdmaBlockStep.cpu = s.cpu := by
  unfold State.hdmaBlockStep; dsimp only; split <;> (try split) <;> simp

@[simp] theorem State.hdmaArm_cpu (s : State) : s.hdmaArm.cpu = s.cpu := by
  unfold State.hdmaArm; split <;> simp

@[simp] theorem State.hdmaHBlankStep_cpu (s : State) : s.hdmaHBlankStep.cpu = s.cpu := by
  unfold State.hdmaHBlankStep; dsimp only; split <;> (try split) <;> simp

@[simp] theorem State.hdmaStep_cpu (s : State) : s.hdmaStep.cpu = s.cpu := by
  unfold State.hdmaStep
  split
  · split
    · simp
    · simp
    · split <;> simp
    · rfl
  · rfl

theorem State.hdmaArm_frame (s : State) (hs : s.hdma.state ≠ .stopped) : s.Frame s.hdmaArm := by
  unfold State.hdmaArm
  split
  · exact (State.Frame.refl s).withHdma _ rfl (.inl hs)
  · exact .refl s

@[simp] theorem State.hdmaArm_state (s : State) : s.hdmaArm.hdma.state = s.hdma.state := by
  unfold State.hdmaArm; split <;> rfl

@[simp] theorem State.hdmaArm_params (s : State) : s.hdmaArm.params = s.params := by
  unfold State.hdmaArm; split <;> rfl

theorem State.hdmaGeneralStep_frame (s : State) (he : s.params.enhanced = true)
    (hs : s.hdma.state ≠ .stopped) : s.Frame s.hdmaGeneralStep := by
  unfold State.hdmaGeneralStep
  dsimp only
  split
  · exact (s.hdmaCopyTwo_frame he hs).withHdma _ rfl (.inl hs)
  · exact s.hdmaCopyTwo_frame he hs

theorem State.hdmaBlockStep_frame (s : State) (he : s.params.enhanced = true)
    (hs : s.hdma.state ≠ .stopped) : s.Frame s.hdmaBlockStep := by
  have f := (s.hdmaCopyTwo_frame he hs).withHdma
    { s.hdmaCopyTwo.hdma with block := s.hdmaCopyTwo.hdma.block - 2 } rfl (.inl hs)
  unfold State.hdmaBlockStep
  dsimp only
  split
  · exact f.withHdma _ rfl (.inl hs)
  · split
    · exact f.withHdma _ rfl (.inl hs)
    · exact f

theorem State.hdmaHBlankStep_frame (s : State) (he : s.params.enhanced = true)
    (hs : s.hdma.state ≠ .stopped) : s.Frame s.hdmaHBlankStep := by
  have f := s.hdmaArm_frame hs
  unfold State.hdmaHBlankStep
  dsimp only
  split
  · exact f.trans (State.hdmaBlockStep_frame _ (by simpa using he) (by simpa using hs))
  · split
    · exact f
    · exact f.withHdma _ rfl (.inl hs)
  · exact f

theorem State.hdmaStep_frame (s : State) : s.Frame s.hdmaStep := by
  unfold State.hdmaStep
  split
  · rename_i he
    split
    · rename_i hs
      exact (State.Frame.refl s).withHdma _ rfl (.inl (by rw [hs]; decide))
    · rename_i hs
      exact (State.Frame.refl s).withHdma _ rfl (.inl (by rw [hs]; decide))
    · rename_i hs
      have hn : s.hdma.state ≠ .stopped := by rw [hs]; decide
      split
      · exact s.hdmaGeneralStep_frame he hn
      · exact s.hdmaHBlankStep_frame he hn
    · exact .refl s
  · exact .refl s

/-! ## The tick -/

@[simp] theorem State.endTick_cpu (s : State) : s.endTick.cpu = s.cpu := by
  simp [State.endTick]

theorem State.endTick_frame (s : State) : s.Frame s.endTick := by
  have h : s.Frame s.dmaStep.hdmaStep.ppuStep.timerStep :=
    ((s.dmaStep_frame.trans s.dmaStep.hdmaStep_frame).trans (State.ppuStep_frame _)).trans
      (State.timerStep_frame _)
  exact h.trans (.of_same rfl rfl rfl rfl fun _ h => h)

@[simp] theorem State.setKey_cpu (s : State) (k : Key) (b : Bool) : (s.setKey k b).cpu = s.cpu := by
  unfold State.setKey; dsimp only; split <;> rfl

theorem State.setKey_frame (s : State) (k : Key) (b : Bool) : s.Frame (s.setKey k b) := by
  unfold State.setKey; dsimp only; split <;> exact .of_same rfl rfl rfl rfl fun _ h => h

@[simp] theorem State.hostEvent_cpu (s : State) (e : HostEvent) : (s.hostEvent e).cpu = s.cpu := by
  cases e <;> simp only [State.hostEvent] <;> (try split) <;> simp

theorem State.hostEvent_frame (s : State) (e : HostEvent) : s.Frame (s.hostEvent e) := by
  cases e <;> simp only [State.hostEvent]
  · split
    · exact (s.setKey_frame _ _).trans (State.request_frame _ 4)
    · exact s.setKey_frame _ _
  · exact s.setKey_frame _ _
  · split
    · exact s.request_frame 4
    · exact .refl s

theorem State.applyDue_cpu (l : List HostInput) (s : State) : (State.applyDue l s).cpu = s.cpu := by
  induction l generalizing s with
  | nil => rfl
  | cons x l ih =>
    simp only [State.applyDue]
    split
    · rw [ih, State.hostEvent_cpu]
    · rfl

theorem State.applyDue_frame (l : List HostInput) (s : State) : s.Frame (State.applyDue l s) := by
  induction l generalizing s with
  | nil => exact .of_same rfl rfl rfl rfl fun _ h => h
  | cons x l ih =>
    simp only [State.applyDue]
    split
    · exact (s.hostEvent_frame _).trans (ih _)
    · exact .of_same rfl rfl rfl rfl fun _ h => h

@[simp] theorem State.applyInputs_cpu (s : State) : s.applyInputs.cpu = s.cpu := State.applyDue_cpu _ s

theorem State.applyInputs_frame (s : State) : s.Frame s.applyInputs := State.applyDue_frame _ s

theorem State.thaw_cpu (n : Nat) (s : State) : (State.thaw n s).cpu = s.cpu := by
  induction n generalizing s with
  | zero => rfl
  | succ n ih =>
    simp only [State.thaw]
    split
    · rw [ih]; simp
    · rfl

theorem State.thaw_frame (n : Nat) (s : State) : s.Frame (State.thaw n s) := by
  induction n generalizing s with
  | zero => exact .refl s
  | succ n ih =>
    simp only [State.thaw]
    split
    · exact (s.endTick_frame.trans (State.applyInputs_frame _)).trans (ih _)
    · exact .refl s

@[simp] theorem State.startTick_cpu (s : State) : s.startTick.cpu = s.cpu := by
  simp [State.startTick, State.thaw_cpu]

theorem State.startTick_frame (s : State) : s.Frame s.startTick :=
  s.applyInputs_frame.trans (State.thaw_frame _ _)

@[simp] theorem State.nextCycle_cpu (s : State) : s.nextCycle.cpu = s.cpu := by
  simp [State.nextCycle]

theorem State.nextCycle_frame (s : State) : s.Frame s.nextCycle :=
  s.endTick_frame.trans (State.startTick_frame _)

theorem State.Frame.cycle {s t : State} (h : s.Frame t) : s.Frame t.nextCycle := h.trans t.nextCycle_frame
theorem State.Frame.finish {s t : State} (h : s.Frame t) : s.Frame t.endTick := h.trans t.endTick_frame

@[simp] theorem State.nextCycle_params (s : State) : s.nextCycle.params = s.params :=
  congrArg Settings.params s.nextCycle_frame.settings

@[simp] theorem State.endTick_params (s : State) : s.endTick.params = s.params :=
  congrArg Settings.params s.endTick_frame.settings

@[simp] theorem State.startTick_params (s : State) : s.startTick.params = s.params :=
  congrArg Settings.params s.startTick_frame.settings

end Sys2Proof.Machine
end

