-- ==== Sys2Proof/Laws/Cycles.lean ====
section
/-! SUPPORT. Time, and the independence of the devices from the CPU's registers. -/

namespace Sys2Proof.Machine

/-! ## The devices do not look at the CPU -/

@[simp] theorem State.rawRead_withCpu (s : State) (r : Cpu) (b : Agent) (a : Word) :
    (s.withCpu r).rawRead b a = s.rawRead b a := rfl

@[simp] theorem State.busRead_withCpu (s : State) (r : Cpu) (a : Word) :
    (s.withCpu r).busRead a = s.busRead a := rfl

@[simp] theorem State.writtenCell_withCpu (s : State) (r : Cpu) (a : Word) :
    (s.withCpu r).writtenCell a = s.writtenCell a := rfl

@[simp] theorem State.route_withCpu (s : State) (r : Cpu) (a : Word) :
    (s.withCpu r).route a = s.route a := rfl

theorem State.dmaStep_withCpu (s : State) (r : Cpu) : (s.withCpu r).dmaStep = s.dmaStep.withCpu r := by
  have copy : (s.withCpu r).dmaCopyOne = s.dmaCopyOne.withCpu r := by
    by_cases h : s.dma.index < 160 <;>
      simp only [State.dmaCopyOne, State.withCpu_dma, h, if_true, if_false] <;> rfl
  unfold State.dmaStep
  rw [copy, State.withCpu_dma]
  split
  · by_cases h : s.dma.shadow = .running <;> simp only [h, if_true, if_false] <;> rfl
  · rfl
  · rfl
  · rfl

theorem State.hdmaStep_withCpu (s : State) (r : Cpu) : (s.withCpu r).hdmaStep = s.hdmaStep.withCpu r := by
  have two : ∀ u : State, (u.withCpu r).hdmaCopyTwo = u.hdmaCopyTwo.withCpu r := fun _ => rfl
  have general : (s.withCpu r).hdmaGeneralStep = s.hdmaGeneralStep.withCpu r := by
    by_cases h : s.hdmaCopyTwo.hdma.total = 0 <;>
      simp only [State.hdmaGeneralStep, two, State.withCpu_hdma, h, if_true, if_false] <;> rfl
  have block : ∀ u : State, (u.withCpu r).hdmaBlockStep = u.hdmaBlockStep.withCpu r := by
    intro u
    by_cases h : u.hdmaCopyTwo.hdma.total = 0 <;> by_cases g : u.hdmaCopyTwo.hdma.block - 2 = 0 <;>
      simp only [State.hdmaBlockStep, two, State.withCpu_hdma, State.withHdma_hdma, h, g, if_true,
        if_false] <;> rfl
  have arm : (s.withCpu r).hdmaArm = s.hdmaArm.withCpu r := by
    by_cases h : s.hdma.sub = .awaitingHBlank ∧ s.ppu.mode = .hblank <;>
      simp only [State.hdmaArm, State.withCpu_hdma, State.withCpu_ppu, h, if_true, if_false] <;> rfl
  have hb : (s.withCpu r).hdmaHBlankStep = s.hdmaHBlankStep.withCpu r := by
    unfold State.hdmaHBlankStep
    rw [arm]
    simp only [State.withCpu_hdma, State.withCpu_ppu]
    split
    · exact block _
    · by_cases h : s.hdmaArm.ppu.mode = .hblank <;> simp only [h, if_true, if_false] <;> rfl
    · rfl
  unfold State.hdmaStep
  rw [general, hb, State.withCpu_hdma, State.withCpu_params]
  split
  · split
    · rfl
    · rfl
    · split <;> rfl
    · rfl
  · rfl

theorem State.updateStatLine_withCpu (s : State) (r : Cpu) :
    (s.withCpu r).updateStatLine = s.updateStatLine.withCpu r := by
  unfold State.updateStatLine
  simp only [State.withCpu_ppu, apply_ite (fun t : State => t.withCpu r)]
  rfl

theorem State.ppuStep_withCpu (s : State) (r : Cpu) : (s.withCpu r).ppuStep = s.ppuStep.withCpu r := by
  have latch : ∀ u : State, (u.withCpu r).latchLength = u.latchLength.withCpu r := by
    intro u; unfold State.latchLength
    simp only [State.withCpu_ppu, apply_ite (fun t : State => t.withCpu r)]; rfl
  have enter : ∀ (u : State) (m : Mode), (u.withCpu r).enterMode m = (u.enterMode m).withCpu r := by
    intro u m; cases m <;> rfl
  have change : ∀ (u : State) (m : Mode), (u.withCpu r).changeMode m = (u.changeMode m).withCpu r := by
    intro u m; unfold State.changeMode
    rw [show (u.withCpu r).withPpu { (u.withCpu r).ppu with mode := m }
      = (u.withPpu { u.ppu with mode := m }).withCpu r from rfl, enter]
    simp only [State.withCpu_ppu, apply_ite (fun t : State => t.withCpu r)]
    rfl
  unfold State.ppuStep
  dsimp only
  rw [show ∀ p, (s.withCpu r).withPpu p = (s.withPpu p).withCpu r from fun _ => rfl, latch, change,
    updateStatLine_withCpu, show ∀ p, (s.withCpu r).withPpu p = (s.withPpu p).withCpu r from fun _ => rfl,
    updateStatLine_withCpu]
  simp only [State.withCpu_ppu, apply_ite (fun t : State => t.withCpu r)]
  rfl

theorem State.timerStep_withCpu (s : State) (r : Cpu) :
    (s.withCpu r).timerStep = s.timerStep.withCpu r := by
  unfold State.timerStep
  simp only [State.withCpu_timer, apply_ite (fun t : State => t.withCpu r)]
  rfl

theorem State.endTick_withCpu (s : State) (r : Cpu) : (s.withCpu r).endTick = s.endTick.withCpu r := by
  unfold State.endTick
  simp only [dmaStep_withCpu, hdmaStep_withCpu, ppuStep_withCpu, timerStep_withCpu]
  rfl

theorem State.hostEvent_withCpu (s : State) (r : Cpu) (e : HostEvent) :
    (s.withCpu r).hostEvent e = (s.hostEvent e).withCpu r := by
  have key : ∀ k b, (s.withCpu r).setKey k b = (s.setKey k b).withCpu r := by
    intro k b; unfold State.setKey; dsimp only; split <;> rfl
  cases e <;> simp only [State.hostEvent]
  · rw [key, show ∀ u : State, (u.withCpu r).request 4 = (u.request 4).withCpu r from fun _ => rfl]
    simp only [State.withCpu_params, apply_ite (fun t : State => t.withCpu r)]
    rfl
  · rw [key]
  · simp only [State.withCpu_params, apply_ite (fun t : State => t.withCpu r)]
    rfl

theorem State.applyDue_withCpu (l : List HostInput) (s : State) (r : Cpu) :
    State.applyDue l (s.withCpu r) = (State.applyDue l s).withCpu r := by
  induction l generalizing s with
  | nil => rfl
  | cons x l ih =>
    simp only [State.applyDue, State.hostEvent_withCpu, ih, State.withCpu_elapsedCycles]
    split <;> rfl

theorem State.applyInputs_withCpu (s : State) (r : Cpu) :
    (s.withCpu r).applyInputs = s.applyInputs.withCpu r := State.applyDue_withCpu _ s r

theorem State.thaw_withCpu (n : Nat) (s : State) (r : Cpu) :
    State.thaw n (s.withCpu r) = (State.thaw n s).withCpu r := by
  induction n generalizing s with
  | zero => rfl
  | succ n ih =>
    simp only [State.thaw, endTick_withCpu, applyInputs_withCpu, ih,
      show (s.withCpu r).hdmaHaltsCpu = s.hdmaHaltsCpu from rfl]
    split <;> rfl

theorem State.startTick_withCpu (s : State) (r : Cpu) :
    (s.withCpu r).startTick = s.startTick.withCpu r := by
  simp only [State.startTick, applyInputs_withCpu, thaw_withCpu, State.withCpu_hdma]

@[simp] theorem State.nextCycle_withCpu (s : State) (r : Cpu) :
    (s.withCpu r).nextCycle = s.nextCycle.withCpu r := by
  simp only [State.nextCycle, endTick_withCpu, startTick_withCpu]

/-! ## Time -/

@[simp] theorem State.updateStatLine_elapsed (s : State) :
    s.updateStatLine.elapsedCycles = s.elapsedCycles := by
  unfold State.updateStatLine; dsimp only; split <;> rfl

@[simp] theorem State.dmaStep_elapsed (s : State) : s.dmaStep.elapsedCycles = s.elapsedCycles := by
  have c : s.dmaCopyOne.elapsedCycles = s.elapsedCycles := by
    unfold State.dmaCopyOne; split <;> rfl
  unfold State.dmaStep
  split
  · dsimp only; split
    · exact c
    · rfl
  · rfl
  · exact c
  · rfl

@[simp] theorem State.hdmaStep_elapsed (s : State) : s.hdmaStep.elapsedCycles = s.elapsedCycles := by
  have arm : s.hdmaArm.elapsedCycles = s.elapsedCycles := by unfold State.hdmaArm; split <;> rfl
  have two : ∀ u : State, u.hdmaCopyTwo.elapsedCycles = u.elapsedCycles := fun _ => rfl
  have block : ∀ u : State, u.hdmaBlockStep.elapsedCycles = u.elapsedCycles := by
    intro u; unfold State.hdmaBlockStep; dsimp only; split <;> (try split) <;> simp [two]
  unfold State.hdmaStep
  split
  · split
    · simp
    · simp
    · split
      · unfold State.hdmaGeneralStep; dsimp only; split <;> simp [two]
      · unfold State.hdmaHBlankStep; dsimp only; split
        · rw [block, arm]
        · split
          · exact arm
          · exact arm
        · exact arm
    · rfl
  · rfl

@[simp] theorem State.ppuStep_elapsed (s : State) : s.ppuStep.elapsedCycles = s.elapsedCycles := by
  have latch : ∀ u : State, u.latchLength.elapsedCycles = u.elapsedCycles := by
    intro u; unfold State.latchLength; split <;> rfl
  have change : ∀ (u : State) m, (u.changeMode m).elapsedCycles = u.elapsedCycles := by
    intro u m; unfold State.changeMode; split
    · rfl
    · cases m <;> rfl
  unfold State.ppuStep
  dsimp only
  split <;> simp [latch, change]

@[simp] theorem State.timerStep_elapsed (s : State) : s.timerStep.elapsedCycles = s.elapsedCycles := by
  unfold State.timerStep; dsimp only; split <;> rfl

/-- Every tick is one machine cycle, 4 clock cycles (R62, R370). -/
@[simp] theorem State.endTick_elapsed (s : State) : s.endTick.elapsedCycles = s.elapsedCycles + 4 := by
  simp [State.endTick]

@[simp] theorem State.applyInputs_elapsed (s : State) : s.applyInputs.elapsedCycles = s.elapsedCycles := by
  have key : ∀ (u : State) k b, (u.setKey k b).elapsedCycles = u.elapsedCycles := by
    intro u k b; unfold State.setKey; dsimp only; split <;> rfl
  have event : ∀ (u : State) e, (u.hostEvent e).elapsedCycles = u.elapsedCycles := by
    intro u e
    cases e <;> simp only [State.hostEvent]
    · split <;> simp [key]
    · exact key _ _ _
    · split <;> simp
  have due : ∀ (l : List HostInput) (u : State),
      (State.applyDue l u).elapsedCycles = u.elapsedCycles := by
    intro l
    induction l with
    | nil => intro u; rfl
    | cons x l ih =>
      intro u
      simp only [State.applyDue]
      split
      · rw [ih, event]
      · rfl
  exact due _ _

end Sys2Proof.Machine
end

