-- ==== Sys2Proof/Laws/Bus.lean ====
section
/-! SUPPORT. What a CPU write can do, and the frame of instructions that store one or two bytes. -/

namespace Sys2Proof.Machine

/-! ## One write -/

/-- What is said of a write to an I/O register: it changes neither the CPU, nor time, nor memory, and
it only ever arms a transfer. -/
theorem State.ioWrite_spec (s : State) (r : IoReg) (v : Byte) :
    (s.ioWrite r v).cpu = s.cpu ∧ (s.ioWrite r v).params = s.params
    ∧ (s.ioWrite r v).mem = s.mem ∧ (s.ioWrite r v).elapsedCycles = s.elapsedCycles
    ∧ ((s.ioWrite r v).dma = s.dma ∨ (s.ioWrite r v).dma = s.dma.start v)
    ∧ ((s.ioWrite r v).hdma.state = s.hdma.state ∧ (s.ioWrite r v).hdma.mode = s.hdma.mode
      ∨ (s.ioWrite r v).hdma.state = .requested) := by
  have stat : ∀ u : State, u.updateStatLine.params = u.params ∧ u.updateStatLine.mem = u.mem
      ∧ u.updateStatLine.dma = u.dma ∧ u.updateStatLine.hdma = u.hdma := by
    intro u; unfold State.updateStatLine; dsimp only; split <;> exact ⟨rfl, rfl, rfl, rfl⟩
  cases r <;> simp only [State.ioWrite] <;> (try split) <;>
    simp [stat, Hdma.start]

/-- What is said of a CPU write: the memory cell it changes is `writtenCell`. -/
theorem State.busWrite_mem (s : State) (a : Word) (v : Byte) :
    (s.busWrite a v).mem = match s.writtenCell a with
      | some k => s.mem.write k v
      | none => s.mem := by
  unfold State.busWrite State.writtenCell
  split
  · rfl
  · unfold State.rawWrite
    split
    all_goals rename_i hr
    all_goals simp only [hr]
    all_goals try rfl
    split
    · exact (s.ioWrite_spec _ v).2.2.1
    · rfl

theorem State.busWrite_spec (s : State) (a : Word) (v : Byte) :
    (s.busWrite a v).cpu = s.cpu ∧ (s.busWrite a v).params = s.params
    ∧ (s.busWrite a v).elapsedCycles = s.elapsedCycles
    ∧ ((s.busWrite a v).dma = s.dma ∨ (s.busWrite a v).dma = s.dma.start v)
    ∧ ((s.busWrite a v).hdma.state = s.hdma.state ∧ (s.busWrite a v).hdma.mode = s.hdma.mode
      ∨ (s.busWrite a v).hdma.state = .requested) := by
  unfold State.busWrite
  split
  · simp
  · unfold State.rawWrite
    split <;> try simp
    split
    · have h := s.ioWrite_spec ‹_› v
      exact ⟨h.1, h.2.1, h.2.2.2.1, h.2.2.2.2⟩
    · simp

@[simp] theorem State.busWrite_cpu (s : State) (a : Word) (v : Byte) : (s.busWrite a v).cpu = s.cpu :=
  (s.busWrite_spec a v).1
@[simp] theorem State.busWrite_params (s : State) (a : Word) (v : Byte) :
    (s.busWrite a v).params = s.params := (s.busWrite_spec a v).2.1
@[simp] theorem State.busWrite_elapsed (s : State) (a : Word) (v : Byte) :
    (s.busWrite a v).elapsedCycles = s.elapsedCycles := (s.busWrite_spec a v).2.2.1

theorem State.busWrite_wf (s : State) (a : Word) (v : Byte) (h : s.mem.wf) : (s.busWrite a v).mem.wf := by
  rw [s.busWrite_mem]
  split
  · exact Memory.write_wf h _ _
  · exact h

/-- A write leaves every cell but the written one. -/
theorem State.busWrite_read_other (s : State) (a : Word) (v : Byte) {k : Nat}
    (h : s.writtenCell a ≠ some k) : (s.busWrite a v).mem.read k = s.mem.read k := by
  rw [s.busWrite_mem]
  split
  · rename_i j hj
    exact Memory.read_write_other _ _ fun e => h (by rw [hj, e])
  · rfl

/-- The written cell reads back what was written. -/
theorem State.busWrite_read_self (s : State) (a : Word) (v : Byte) {k : Nat}
    (h : s.writtenCell a = some k) (hm : s.mem.wf) : (s.busWrite a v).mem.read k = v := by
  rw [s.busWrite_mem, h]
  exact Memory.read_write_self hm k v

/-- A write outside the I/O registers and IE changes no setting. -/
theorem State.busWrite_settings (s : State) (a : Word) (v : Byte)
    (h : s.route a ≠ .io ∧ s.route a ≠ .ie) : (s.busWrite a v).settings = s.settings := by
  unfold State.busWrite
  split
  · rfl
  · unfold State.rawWrite
    split <;> rename_i hr <;> first | rfl | exact absurd hr h.1 | exact absurd hr h.2

/-- A write outside the I/O registers and IE changes no pending bit. -/
theorem State.busWrite_irq (s : State) (a : Word) (v : Byte)
    (h : s.route a ≠ .io ∧ s.route a ≠ .ie) : (s.busWrite a v).irq = s.irq := by
  unfold State.busWrite
  split
  · rfl
  · unfold State.rawWrite
    split <;> rename_i hr <;> first | rfl | exact absurd hr h.1 | exact absurd hr h.2

@[simp] theorem State.busWrite_withCpu (s : State) (r : Cpu) (a : Word) (v : Byte) :
    (s.withCpu r).busWrite a v = (s.busWrite a v).withCpu r := by
  have stat : ∀ u : State, (u.withCpu r).updateStatLine = u.updateStatLine.withCpu r :=
    fun u => u.updateStatLine_withCpu r
  have io : ∀ reg, (s.withCpu r).ioWrite reg v = (s.ioWrite reg v).withCpu r := by
    intro reg
    cases reg <;> simp only [State.ioWrite]
    case tima => by_cases h : s.timer.reloadDelay > 0 <;> simp [h] <;> rfl
    case bootOff => by_cases h : v.getLsbD 0 <;> simp only [h] <;> rfl
    case lcdc => exact stat (s.withPpu _)
    case stat => exact stat (s.withPpu _)
    case lyc => exact stat (s.withPpu _)
    all_goals rfl
  unfold State.busWrite
  rw [show (s.withCpu r).blocked a = s.blocked a from rfl]
  split
  · rfl
  · unfold State.rawWrite
    rw [State.route_withCpu]
    split <;> try rfl
    rw [State.withCpu_params]
    split
    · exact io _
    · rfl

/-! ## Transfers that a store starts -/

/-- OAM DMA copies nothing in the next `n` ticks, whatever the CPU writes in them. -/
def State.DmaQuiet (s : State) (n : Nat) : Prop :=
  s.dma.state = .stopped ∨ (s.dma.state = .requested ∧ s.dma.shadow ≠ .running ∧ n ≤ 2)
  ∨ (s.dma.state = .settingUp ∧ n ≤ 1)

/-- HDMA copies nothing in the next `n` ticks, whatever the CPU writes in them. -/
def State.HdmaQuiet (s : State) (n : Nat) : Prop :=
  s.params.enhanced = false ∨ s.hdma.state = .stopped ∨ (s.hdma.state = .requested ∧ n ≤ 2)
  ∨ (s.hdma.state = .settingUp ∧ n ≤ 1)

/-- No transfer writes cell `k` in the next `n` ticks, whatever the CPU writes in them. -/
def State.QuietAt (s : State) (k n : Nat) : Prop :=
  (IsOamCell k → s.DmaQuiet n ∧ s.HdmaQuiet n) ∧ (IsVramCell k → s.HdmaQuiet n)

theorem State.DmaQuiet.write {s : State} {n : Nat} (h : s.DmaQuiet n) (hn : n ≤ 2) (a : Word) (v : Byte) :
    (s.busWrite a v).DmaQuiet n := by
  rcases (s.busWrite_spec a v).2.2.2.1 with e | e
  · unfold State.DmaQuiet; rw [e]; exact h
  · refine .inr (.inl ?_)
    rw [e]
    refine ⟨rfl, ?_, hn⟩
    rcases h with h | ⟨h, -⟩ | ⟨h, -⟩ <;> simp [OamDma.start, h]

theorem State.HdmaQuiet.write {s : State} {n : Nat} (h : s.HdmaQuiet n) (hn : n ≤ 2) (a : Word) (v : Byte) :
    (s.busWrite a v).HdmaQuiet n := by
  unfold State.HdmaQuiet
  rw [State.busWrite_params]
  rcases (s.busWrite_spec a v).2.2.2.2 with ⟨e, -⟩ | e
  · rw [e]; exact h
  · exact .inr (.inr (.inl ⟨e, hn⟩))

theorem State.QuietAt.write {s : State} {k n : Nat} (h : s.QuietAt k n) (hn : n ≤ 2) (a : Word) (v : Byte) :
    (s.busWrite a v).QuietAt k n :=
  ⟨fun o => ⟨(h.1 o).1.write hn a v, (h.1 o).2.write hn a v⟩, fun o => (h.2 o).write hn a v⟩

theorem State.QuietAt.withCpu {s : State} {k n : Nat} (h : s.QuietAt k n) (r : Cpu) :
    (s.withCpu r).QuietAt k n := h

/-! The transfer states after the rest of a tick are those after the engine's own step. -/

theorem State.endTick_dma (s : State) : s.endTick.dma = s.dmaStep.dma := by
  have stat : ∀ u : State, u.updateStatLine.dma = u.dma := by
    intro u; unfold State.updateStatLine; dsimp only; split <;> rfl
  have ppu : ∀ u : State, u.ppuStep.dma = u.dma := by
    intro u
    have latch : ∀ u : State, u.latchLength.dma = u.dma := by
      intro u; unfold State.latchLength; split <;> rfl
    have change : ∀ (u : State) m, (u.changeMode m).dma = u.dma := by
      intro u m; unfold State.changeMode; split
      · rfl
      · cases m <;> rfl
    unfold State.ppuStep; dsimp only; split <;> simp [stat, latch, change]
  have timer : ∀ u : State, u.timerStep.dma = u.dma := by
    intro u; unfold State.timerStep; dsimp only; split <;> rfl
  have hdma : ∀ u : State, u.hdmaStep.dma = u.dma := by
    intro u
    have two : ∀ u : State, u.hdmaCopyTwo.dma = u.dma := fun _ => rfl
    have arm : ∀ u : State, u.hdmaArm.dma = u.dma := by
      intro u; unfold State.hdmaArm; split <;> rfl
    have block : ∀ u : State, u.hdmaBlockStep.dma = u.dma := by
      intro u; unfold State.hdmaBlockStep; dsimp only; split <;> (try split) <;> simp [two]
    unfold State.hdmaStep
    split
    · split
      · rfl
      · rfl
      · split
        · unfold State.hdmaGeneralStep; dsimp only; split <;> simp [two]
        · unfold State.hdmaHBlankStep; dsimp only; split
          · rw [block, arm]
          · split <;> simp [arm]
          · exact arm _
      · rfl
    · rfl
  simp [State.endTick, timer, ppu, hdma]

theorem State.endTick_hdma (s : State) : s.endTick.hdma = s.dmaStep.hdmaStep.hdma := by
  have stat : ∀ u : State, u.updateStatLine.hdma = u.hdma := by
    intro u; unfold State.updateStatLine; dsimp only; split <;> rfl
  have ppu : ∀ u : State, u.ppuStep.hdma = u.hdma := by
    intro u
    have latch : ∀ u : State, u.latchLength.hdma = u.hdma := by
      intro u; unfold State.latchLength; split <;> rfl
    have change : ∀ (u : State) m, (u.changeMode m).hdma = u.hdma := by
      intro u m; unfold State.changeMode; split
      · rfl
      · cases m <;> rfl
    unfold State.ppuStep; dsimp only; split <;> simp [stat, latch, change]
  have timer : ∀ u : State, u.timerStep.hdma = u.hdma := by
    intro u; unfold State.timerStep; dsimp only; split <;> rfl
  simp [State.endTick, timer, ppu]

@[simp] theorem State.dmaStep_hdma (s : State) : s.dmaStep.hdma = s.hdma := by
  have copy : s.dmaCopyOne.hdma = s.hdma := by unfold State.dmaCopyOne; split <;> rfl
  unfold State.dmaStep
  split
  · dsimp only; split <;> simp [copy]
  · rfl
  · simp [copy]
  · rfl

@[simp] theorem State.dmaStep_params (s : State) : s.dmaStep.params = s.params :=
  congrArg Settings.params s.dmaStep_frame.settings

theorem State.applyInputs_transfers (s : State) : s.applyInputs.dma = s.dma ∧ s.applyInputs.hdma = s.hdma := by
  have key : ∀ (u : State) k b, (u.setKey k b).dma = u.dma ∧ (u.setKey k b).hdma = u.hdma := by
    intro u k b; unfold State.setKey; dsimp only; split <;> exact ⟨rfl, rfl⟩
  have event : ∀ (u : State) e, (u.hostEvent e).dma = u.dma ∧ (u.hostEvent e).hdma = u.hdma := by
    intro u e
    cases e <;> simp only [State.hostEvent]
    · split <;> simp [key]
    · exact key _ _ _
    · split <;> simp
  have due : ∀ (l : List HostInput) (u : State),
      (State.applyDue l u).dma = u.dma ∧ (State.applyDue l u).hdma = u.hdma := by
    intro l
    induction l with
    | nil => intro u; exact ⟨rfl, rfl⟩
    | cons x l ih =>
      intro u
      simp only [State.applyDue]
      split
      · rw [(ih _).1, (ih _).2]; exact event _ _
      · exact ⟨rfl, rfl⟩
  exact due _ _

theorem State.DmaQuiet.endTick {s : State} {n : Nat} (h : s.DmaQuiet (n + 1)) :
    n = 0 ∨ s.endTick.DmaQuiet n := by
  unfold State.DmaQuiet
  rw [State.endTick_dma]
  rcases h with h | ⟨h, g, hn⟩ | ⟨h, hn⟩
  · exact .inr (.inl (by simp [State.dmaStep, h]))
  · exact .inr (.inr (.inr ⟨by simp [State.dmaStep, h, g], by omega⟩))
  · exact .inl (by omega)

theorem State.HdmaQuiet.endTick {s : State} {n : Nat} (h : s.HdmaQuiet (n + 1)) :
    n = 0 ∨ s.endTick.HdmaQuiet n := by
  unfold State.HdmaQuiet
  rw [State.endTick_hdma, State.endTick_params]
  rcases h with h | h | ⟨h, hn⟩ | ⟨h, hn⟩
  · exact .inr (.inl h)
  · refine .inr (.inr (.inl ?_))
    unfold State.hdmaStep; simp [h]
  · by_cases he : s.params.enhanced = true
    · exact .inr (.inr (.inr (.inr ⟨by simp [State.hdmaStep, h, he], by omega⟩)))
    · exact .inr (.inl (by simpa using he))
  · exact .inl (by omega)

/-- Without a running general-purpose transfer no tick is frozen. -/
theorem State.startTick_of_quiet {s : State} {n : Nat} (h : s.HdmaQuiet n) :
    s.startTick = s.applyInputs := by
  have hh : s.applyInputs.hdmaHaltsCpu = false := by
    have hp : s.applyInputs.params = s.params := congrArg Settings.params s.applyInputs_frame.settings
    have hs := s.applyInputs_transfers.2
    rcases h with h | h | ⟨h, -⟩ | ⟨h, -⟩ <;> simp [State.hdmaHaltsCpu, hp, hs, h]
  simp [State.startTick, State.thaw, hh]

/-! ## Time where no transfer freezes the CPU -/

@[simp] theorem State.withCpu_neverFreezes (s : State) (r : Cpu) :
    (s.withCpu r).NeverFreezes ↔ s.NeverFreezes := Iff.rfl

theorem State.NeverFreezes.applyInputs {s : State} (h : s.NeverFreezes) : s.applyInputs.NeverFreezes := by
  have hp : s.applyInputs.params = s.params := congrArg Settings.params s.applyInputs_frame.settings
  unfold State.NeverFreezes at *
  rwa [hp, s.applyInputs_transfers.2]

theorem State.NeverFreezes.endTick {s : State} (h : s.NeverFreezes) : s.endTick.NeverFreezes := by
  rcases h with h | h | h
  · exact .inl (by simpa using h)
  · refine .inr (.inl ?_)
    rw [State.endTick_hdma]
    unfold State.hdmaStep
    simp [h]
  · exact .inr (.inr ((congrArg Settings.hdmaMode s.endTick_frame.settings).trans h))

/-- Such a machine has no frozen tick (R349). -/
theorem State.NeverFreezes.startTick_eq {s : State} (h : s.NeverFreezes) : s.startTick = s.applyInputs := by
  have hh : s.applyInputs.hdmaHaltsCpu = false := by
    rcases h.applyInputs with g | g | g <;> simp [State.hdmaHaltsCpu, g]
  simp [State.startTick, State.thaw, hh]

theorem State.NeverFreezes.startTick {s : State} (h : s.NeverFreezes) : s.startTick.NeverFreezes := by
  rw [h.startTick_eq]; exact h.applyInputs

theorem State.NeverFreezes.nextCycle {s : State} (h : s.NeverFreezes) : s.nextCycle.NeverFreezes :=
  h.endTick.startTick

theorem State.startTick_elapsed {s : State} (h : s.NeverFreezes) :
    s.startTick.elapsedCycles = s.elapsedCycles := by
  rw [h.startTick_eq, State.applyInputs_elapsed]

theorem State.nextCycle_elapsed {s : State} (h : s.NeverFreezes) :
    s.nextCycle.elapsedCycles = s.elapsedCycles + 4 := by
  rw [State.nextCycle, State.startTick_elapsed h.endTick, State.endTick_elapsed]

/-- A transfer that a store starts does not freeze the CPU in the M-cycle after the store (R345, R346). -/
theorem State.nextCycle_elapsed_stored {s : State} (h : s.NeverFreezes) (a : Word) (v : Byte) :
    (s.busWrite a v).nextCycle.elapsedCycles = s.elapsedCycles + 4 := by
  rcases (s.busWrite_spec a v).2.2.2.2 with ⟨e1, e2⟩ | e
  · rw [State.nextCycle_elapsed, State.busWrite_elapsed]
    unfold State.NeverFreezes at *
    rwa [State.busWrite_params, e1, e2]
  · have q : (s.busWrite a v).HdmaQuiet 2 := .inr (.inr (.inl ⟨e, by omega⟩))
    rcases q.endTick with z | q
    · omega
    · rw [State.nextCycle, State.startTick_of_quiet q, State.applyInputs_elapsed, State.endTick_elapsed,
        State.busWrite_elapsed]

/-- The rest of a tick copies nothing to a cell at which the transfers are quiet. -/
theorem State.QuietAt.endTick_read {s : State} {k n : Nat} (h : s.QuietAt k (n + 1)) :
    s.endTick.mem.read k = s.mem.read k := by
  have dma : s.dmaStep.mem.read k = s.mem.read k := by
    have copy : ¬ IsOamCell k → s.dmaCopyOne.mem.read k = s.mem.read k := by
      intro o
      unfold State.dmaCopyOne
      split
      · rename_i hi
        exact Memory.read_write_other _ _ fun e => o (e ▸ oamCell_isOamCell hi)
      · rfl
    by_cases o : IsOamCell k
    · rcases (h.1 o).1 with g | ⟨g, g2, -⟩ | ⟨g, -⟩
      · simp [State.dmaStep, g]
      · simp [State.dmaStep, g, g2]
      · simp [State.dmaStep, g]
    · unfold State.dmaStep
      split
      · dsimp only; split
        · exact copy o
        · rfl
      · rfl
      · exact copy o
      · rfl
  have hdma : s.dmaStep.hdmaStep.mem.read k = s.dmaStep.mem.read k := by
    by_cases o : IsVramCell k
    · have hq := h.2 o
      unfold State.HdmaQuiet at hq
      unfold State.hdmaStep
      rcases hq with g | g | ⟨g, -⟩ | ⟨g, -⟩
      · simp [g]
      · simp [g]
      · simp only [State.dmaStep_params, State.dmaStep_hdma, g]; split <;> simp
      · simp only [State.dmaStep_params, State.dmaStep_hdma, g]; split <;> simp
    · by_cases e : s.hdma.state = .stopped
      · have : s.dmaStep.hdmaStep = s.dmaStep := by unfold State.hdmaStep; simp [e]
        rw [this]
      · have one : ∀ u : State, u.hdmaCopyOne.mem.read k = u.mem.read k := fun u =>
          Memory.read_write_other _ _ fun e => o (e ▸ vramCell_isVramCell _ _)
        have two : ∀ u : State, u.hdmaCopyTwo.mem.read k = u.mem.read k := fun u =>
          (one u.hdmaCopyOne).trans (one u)
        have arm : ∀ u : State, u.hdmaArm.mem = u.mem := by
          intro u; unfold State.hdmaArm; split <;> rfl
        have block : ∀ u : State, u.hdmaBlockStep.mem.read k = u.mem.read k := by
          intro u; unfold State.hdmaBlockStep; dsimp only; split <;> (try split) <;> simp [two]
        unfold State.hdmaStep
        split
        · split
          · rfl
          · rfl
          · split
            · unfold State.hdmaGeneralStep; dsimp only; split <;> simp [two]
            · unfold State.hdmaHBlankStep; dsimp only; split
              · rw [block, arm]
              · split <;> simp [arm]
              · rw [arm]
          · rfl
        · rfl
  have stat : ∀ u : State, u.updateStatLine.mem = u.mem := by
    intro u; unfold State.updateStatLine; dsimp only; split <;> rfl
  have ppu : ∀ u : State, u.ppuStep.mem = u.mem := by
    intro u
    have latch : ∀ u : State, u.latchLength.mem = u.mem := by
      intro u; unfold State.latchLength; split <;> rfl
    have change : ∀ (u : State) m, (u.changeMode m).mem = u.mem := by
      intro u m; unfold State.changeMode; split
      · rfl
      · cases m <;> rfl
    unfold State.ppuStep; dsimp only; split <;> simp [stat, latch, change]
  have timer : ∀ u : State, u.timerStep.mem = u.mem := by
    intro u; unfold State.timerStep; dsimp only; split <;> rfl
  simp [State.endTick, timer, ppu, hdma, dma]

theorem State.QuietAt.cycle {s : State} {k n : Nat} (h : s.QuietAt k (n + 2)) :
    s.nextCycle.QuietAt k (n + 1) := by
  have hd : ∀ {m}, s.DmaQuiet (m + 2) → s.nextCycle = s.endTick.applyInputs →
      s.nextCycle.DmaQuiet (m + 1) := by
    intro m q e
    rcases q.endTick with z | q
    · omega
    · rw [e]; unfold State.DmaQuiet at *; rwa [(State.applyInputs_transfers _).1]
  have hh : ∀ {m}, s.HdmaQuiet (m + 2) → s.nextCycle = s.endTick.applyInputs
      ∧ s.nextCycle.HdmaQuiet (m + 1) := by
    intro m q
    rcases q.endTick with z | q
    · omega
    · have e : s.nextCycle = s.endTick.applyInputs := State.startTick_of_quiet q
      refine ⟨e, ?_⟩
      rw [e]
      have hp : s.endTick.applyInputs.params = s.endTick.params :=
        congrArg Settings.params (State.applyInputs_frame _).settings
      unfold State.HdmaQuiet at *
      rwa [(State.applyInputs_transfers _).2, hp]
  exact ⟨fun o => ⟨hd (h.1 o).1 (hh (h.1 o).2).1, (hh (h.1 o).2).2⟩, fun o => (hh (h.2 o)).2⟩

theorem State.applyInputs_mem (s : State) : s.applyInputs.mem = s.mem := by
  have key : ∀ (u : State) k b, (u.setKey k b).mem = u.mem := by
    intro u k b; unfold State.setKey; dsimp only; split <;> rfl
  have event : ∀ (u : State) e, (u.hostEvent e).mem = u.mem := by
    intro u e
    cases e <;> simp only [State.hostEvent]
    · split <;> simp [key]
    · exact key _ _ _
    · split <;> simp
  have due : ∀ (l : List HostInput) (u : State), (State.applyDue l u).mem = u.mem := by
    intro l
    induction l with
    | nil => intro u; rfl
    | cons x l ih =>
      intro u
      simp only [State.applyDue]
      split
      · rw [ih, event]
      · rfl
  exact due _ _

/-- A cell that is neither OAM nor video memory is written by no tick. -/
theorem State.Frame.of_plain {s t : State} (h : s.Frame t) {k : Nat} (h1 : ¬ IsOamCell k)
    (h2 : ¬ IsVramCell k) : t.mem.read k = s.mem.read k :=
  h.mem k fun e => e.elim (fun e => h1 e.2) (fun e => h2 e.2.2)

theorem State.QuietAt.cycle_read {s : State} {k n : Nat} (h : s.QuietAt k (n + 2)) :
    s.nextCycle.mem.read k = s.mem.read k := by
  by_cases o : IsOamCell k ∨ IsVramCell k
  · have q : s.HdmaQuiet (n + 2) := o.elim (fun o => (h.1 o).2) h.2
    rcases q.endTick with z | q
    · omega
    · rw [show s.nextCycle = s.endTick.applyInputs from State.startTick_of_quiet q,
        State.applyInputs_mem]
      exact h.endTick_read
  · exact s.nextCycle_frame.of_plain (fun e => o (.inl e)) (fun e => o (.inr e))

/-! ## The frame of storing instructions -/

/-- Where no transfer may copy, the transfers are quiet for the two ticks a store takes at most. -/
theorem State.quietAt_of_not_mayCopyTo {s : State} {k : Nat} (h : ¬ s.MayCopyTo k) : s.QuietAt k 2 := by
  have dma : IsOamCell k → s.dma.state = .stopped := fun o => by
    by_contra g; exact h (.inl (.inl ⟨g, o⟩))
  have hdma : IsOamCell k ∨ IsVramCell k → s.HdmaQuiet 2 := by
    intro o
    by_cases he : s.params.enhanced = true
    · by_cases g : s.hdma.state = .stopped
      · exact .inr (.inl g)
      · rcases o with o | o
        · exact absurd (.inr ⟨o, he, g⟩) h
        · exact absurd (.inl (.inr ⟨he, g, o⟩)) h
    · exact .inl (by simpa using he)
  exact ⟨fun o => ⟨.inl (dma o), hdma (.inl o)⟩, fun o => hdma (.inr o)⟩

/-- No frame step makes a cell newly reachable by a transfer. -/
theorem State.Frame.not_mayCopyTo {s t : State} (h : s.Frame t) {k : Nat} (g : ¬ s.MayCopyTo k) :
    ¬ t.MayCopyTo k := by
  have hp : t.params = s.params := congrArg Settings.params h.settings
  rintro (e | ⟨o, e1, e2⟩)
  · exact g (.inl (h.engine k e))
  · refine g (.inr ⟨o, hp ▸ e1, ?_⟩)
    have v : IsVramCell 0x8000 := by unfold IsVramCell; omega
    rcases h.engine 0x8000 (.inr ⟨e1, e2, v⟩) with ⟨-, x⟩ | ⟨-, x, -⟩
    · unfold IsOamCell at x; omega
    · exact x

/-- One store in state `u`, then the rest of its tick. -/
theorem State.Frame.storesByte {s u : State} (h : s.Frame u) (a : Word) (v : Byte) (r : Cpu) :
    s.StoresByte u a v ((u.busWrite a v).withCpu r).endTick := by
  have read : ∀ k, ¬ s.MayCopyTo k →
      ((u.busWrite a v).withCpu r).endTick.mem.read k = (u.busWrite a v).mem.read k := fun k hk =>
    ((State.quietAt_of_not_mayCopyTo (h.not_mayCopyTo hk)).write (by omega) a v).withCpu r
      |>.endTick_read (n := 1)
  refine ⟨by simp, ⟨fun k hk hw => ?_, fun hw => ?_⟩, fun hm k hk hn => ?_⟩
  · rw [read k hk, State.busWrite_read_other _ _ _ (by simpa using hw)]
    exact h.mem k fun e => hk (.inl e)
  · have g := State.endTick_frame ((u.busWrite a v).withCpu r)
    have hw : u.route a ≠ .io ∧ u.route a ≠ .ie := by simpa using hw
    refine ⟨?_, fun i hi => g.pending i ?_⟩
    · rw [g.settings]
      exact (u.busWrite_settings a v hw).trans h.settings
    · rw [State.withCpu_irq, u.busWrite_irq a v hw]
      exact h.pending i hi
  · rw [read k hn, State.busWrite_read_self _ _ _ hk (h.wf hm)]

/-- Two stores in two consecutive M-cycles, then the rest of the second's tick. -/
theorem State.Frame.storesTwo {s u : State} (h : s.Frame u) (a b : Word) (v w : Byte) (r : Cpu) :
    s.StoresTwo u a v b w (((u.busWrite a v).nextCycle.busWrite b w).withCpu r).endTick := by
  unfold State.StoresTwo
  dsimp only
  generalize e2 : (u.busWrite a v).nextCycle = u2
  have q2 : ∀ k, ¬ s.MayCopyTo k → (u.busWrite a v).QuietAt k 2 := fun k hk =>
    (State.quietAt_of_not_mayCopyTo (h.not_mayCopyTo hk)).write (by omega) a v
  have r2 : ∀ k, ¬ s.MayCopyTo k → u2.mem.read k = (u.busWrite a v).mem.read k := fun k hk =>
    e2 ▸ (q2 k hk).cycle_read (n := 0)
  have read : ∀ k, ¬ s.MayCopyTo k →
      ((u2.busWrite b w).withCpu r).endTick.mem.read k = (u2.busWrite b w).mem.read k := fun k hk =>
    (((e2 ▸ (q2 k hk).cycle (n := 0) : u2.QuietAt k 1).write (by omega) b w).withCpu r).endTick_read
      (n := 0)
  have e3 : (u.busWrite a v).Frame u2 := e2 ▸ State.nextCycle_frame (u.busWrite a v)
  have wf2 : s.mem.wf → u2.mem.wf := fun hm => e3.wf (u.busWrite_wf a v (h.wf hm))
  refine ⟨by simp, ⟨fun k hk hw => ?_, fun hw => ?_⟩, fun hm k hk hn => ?_, fun hm k ha hb hn => ?_⟩
  · simp only [List.mem_cons, List.not_mem_nil, or_false, forall_eq_or_imp, forall_eq] at hw
    rw [read k hk, State.busWrite_read_other _ _ _ hw.2, r2 k hk,
      State.busWrite_read_other _ _ _ hw.1]
    exact h.mem k fun e => hk (.inl e)
  · simp only [List.mem_cons, List.not_mem_nil, or_false, forall_eq_or_imp, forall_eq] at hw
    have e1 := u.busWrite_settings a v hw.1
    have e2 := u2.busWrite_settings b w hw.2
    have e4 := State.endTick_frame ((u2.busWrite b w).withCpu r)
    refine ⟨?_, fun i hi => e4.pending i ?_⟩
    · rw [e4.settings]
      exact e2.trans (e3.settings.trans (e1.trans h.settings))
    · rw [State.withCpu_irq, u2.busWrite_irq b w hw.2]
      refine e3.pending i ?_
      rw [u.busWrite_irq a v hw.1]
      exact h.pending i hi
  · rw [read k hn, State.busWrite_read_self _ _ _ hk (wf2 hm)]
  · rw [read k hn, State.busWrite_read_other _ _ _ hb, r2 k hn,
      State.busWrite_read_self _ _ _ ha (h.wf hm)]

end Sys2Proof.Machine
end

