-- ==== Sys2Proof/Laws/Flags.lean ====
section
/-! SUPPORT. Each ALU function meets its rule: what it computes, said once as a relation. -/

namespace Sys2Proof.Machine

/-- F as a byte keeps bits 7..4 and clears bits 3..0 (R23). -/
theorem Flags.toByte_ofByte (v : Byte) : (Flags.ofByte v).toByte = v &&& 0xF0 := by
  revert v; decide

theorem Flags.ofByte_toByte (f : Flags) : Flags.ofByte f.toByte = f := by
  obtain ⟨z, n, h, c⟩ := f
  revert z n h c; decide

theorem add8_rule (a v : Byte) (c : Bool) : AddRule a v c (add8 a v c).1 (add8 a v c).2 := by
  simp [AddRule, add8, lowNibble]

theorem sub8_rule (a v : Byte) (c : Bool) : SubRule a v c (sub8 a v c).1 (sub8 a v c).2 := by
  have ha := a.isLt
  have hv := v.isLt
  have hc := c.toNat_le
  refine ⟨?_, by simp [sub8], rfl, ?_, ?_⟩
  · simp only [sub8, BitVec.toNat_ofInt]
    omega
  · simp only [sub8]
    rw [decide_eq_true_iff, lowNibble, lowNibble]
    omega
  · simp only [sub8]
    rw [decide_eq_true_iff]
    omega

theorem logicFlags_rule (res : Byte) (h : Bool) : LogicRule res h (logicFlags res h) := by
  simp [LogicRule, logicFlags]

theorem alu_rule (op : AluOp) (a v : Byte) (f : Flags) :
    AluRule op a v f (alu op a v f).1 (alu op a v f).2 := by
  cases op
  · exact add8_rule a v false
  · exact add8_rule a v f.c
  · exact sub8_rule a v false
  · exact sub8_rule a v f.c
  · exact ⟨rfl, logicFlags_rule _ _⟩
  · exact ⟨rfl, logicFlags_rule _ _⟩
  · exact ⟨rfl, logicFlags_rule _ _⟩
  · exact ⟨rfl, _, sub8_rule a v false⟩

theorem inc8_rule (old : Byte) (f : Flags) : IncRule old f (inc8 old f).1 (inc8 old f).2 := by
  simp [IncRule, inc8, lowNibble]

theorem dec8_rule (old : Byte) (f : Flags) : DecRule old f (dec8 old f).1 (dec8 old f).2 := by
  have h : (old - 1#8).toNat = (old.toNat + 255) % 256 := by
    rw [BitVec.toNat_sub]
    simp [Nat.add_comm]
  simp [DecRule, dec8, lowNibble, h]

theorem daa_rule (a : Byte) (f : Flags) : DaaRule a f (daa a f).1 (daa a f).2 := by
  obtain ⟨z, n, h, c⟩ := f
  generalize hl : (h || (!n && decide (lowNibble a > 0x9))) = lo
  generalize hh : (c || (!n && decide (a.toNat > 0x99))) = hi
  have adj : ((if lo then 6#8 else 0#8) ||| (if hi then 0x60#8 else 0#8)).toNat
      = (if lo then 6 else 0) + (if hi then 0x60 else 0) := by
    cases lo <;> cases hi <;> rfl
  have res : (daa a ⟨z, n, h, c⟩).1
      = if n then a - ((if lo then 6#8 else 0#8) ||| (if hi then 0x60#8 else 0#8))
        else a + ((if lo then 6#8 else 0#8) ||| (if hi then 0x60#8 else 0#8)) := by
    rw [← hl, ← hh]; rfl
  refine ⟨if lo then 6 else 0, if hi then 0x60 else 0, ?_, ?_, ?_, ?_, ?_, ?_, rfl, rfl, ?_⟩
  · cases lo <;> simp
  · rw [← hl]
    cases h <;> cases n <;> simp [lowNibble]
  · cases hi <;> simp
  · rw [← hh]
    cases c <;> cases n <;> simp
  · rw [res]
    have := a.isLt
    cases n
    · simp only [Bool.false_eq_true, if_false, BitVec.toNat_add, adj]
    · simp only [if_true, BitVec.toNat_sub, adj]
      cases lo <;> cases hi <;> simp <;> omega
  · simp [daa]
  · rw [← hh]
    show (c || (!n && decide (a.toNat > 0x99))) = true ↔ _
    cases c <;> cases n <;> simp

theorem addHL_rule (hl v : Word) (f : Flags) : AddHLRule hl v f (addHL hl v f).1 (addHL hl v f).2 := by
  simp [AddHLRule, addHL]

theorem addSPOffset_rule (sp : Word) (e : Byte) :
    OffsetRule sp e (addSPOffset sp e).1 (addSPOffset sp e).2 := by
  refine ⟨?_, rfl, rfl, ?_, ?_⟩
  · have h1 : (sp + e.signExtend 16).toNat = (sp.toNat + (e.signExtend 16).toNat) % 65536 :=
      BitVec.toNat_add ..
    have h2 : ((e.signExtend 16).toNat : Int) = e.toInt % 65536 := by
      have h : (e.signExtend 16).toInt = e.toInt :=
        BitVec.toInt_signExtend_of_le (by decide)
      have g := BitVec.toInt_eq_toNat_cond (e.signExtend 16)
      have lt := (e.signExtend 16).isLt
      rw [h] at g
      split at g <;> omega
    simp only [addSPOffset]
    omega
  · simp [addSPOffset, lowNibble]
  · simp [addSPOffset]

theorem rotate_bits (op : RotOp) (v : Byte) (cf : Bool) {i : Nat} (hi : i < 8) :
    (rotate op v cf).1.getLsbD i = rotatedBit op v cf i := by
  have app : ∀ {n m : Nat} (x : BitVec n) (y : BitVec m),
      (x ++ y).getLsbD i = if i < m then y.getLsbD i else x.getLsbD (i - m) :=
    fun _ _ => BitVec.getLsbD_append
  have cases8 : i = 0 ∨ i = 1 ∨ i = 2 ∨ i = 3 ∨ i = 4 ∨ i = 5 ∨ i = 6 ∨ i = 7 := by omega
  cases op
  case rl =>
    refine (app (v.extractLsb' 0 7) (BitVec.ofBool cf)).trans ?_
    rcases cases8 with rfl | rfl | rfl | rfl | rfl | rfl | rfl | rfl <;>
      simp [rotatedBit, -BitVec.getLsbD_eq_getElem]
  case rr =>
    refine (app (BitVec.ofBool cf) (v.extractLsb' 1 7)).trans ?_
    rcases cases8 with rfl | rfl | rfl | rfl | rfl | rfl | rfl | rfl <;>
      simp [rotatedBit, -BitVec.getLsbD_eq_getElem]
  case swap =>
    refine (app (v.extractLsb' 0 4) (v.extractLsb' 4 4)).trans ?_
    rcases cases8 with rfl | rfl | rfl | rfl | rfl | rfl | rfl | rfl <;>
      simp [rotatedBit, -BitVec.getLsbD_eq_getElem]
  all_goals
    rcases cases8 with rfl | rfl | rfl | rfl | rfl | rfl | rfl | rfl <;>
      simp [rotate, rotatedBit, BitVec.getLsbD_rotateLeft, BitVec.getLsbD_rotateRight,
        BitVec.getLsbD_sshiftRight, BitVec.msb_eq_getLsbD_last, -BitVec.getLsbD_eq_getElem]

theorem rotate_out (op : RotOp) (v : Byte) (cf : Bool) : (rotate op v cf).2 = rotatedOut op v := by
  cases op <;> rfl

theorem rotateCB_rule (op : RotOp) (v : Byte) (f : Flags) :
    RotateRule op true v f (rotateCB op v f).1 (rotateCB op v f).2 :=
  ⟨fun _ hi => rotate_bits op v f.c hi, by simp [rotateCB], rfl, rfl, rotate_out op v f.c⟩

theorem rotateA_rule (op : RotOp) (a : Byte) (f : Flags) :
    RotateRule op false a f (rotateA op a f).1 (rotateA op a f).2 :=
  ⟨fun _ hi => rotate_bits op a f.c hi, by simp [rotateA], rfl, rfl, rotate_out op a f.c⟩

theorem bitFlags_rule (b : BitIdx) (v : Byte) (f : Flags) : BitRule b v f (bitFlags b v f) :=
  ⟨rfl, rfl, rfl, rfl⟩

theorem resetBit_rule (b : BitIdx) (v : Byte) : PutBitRule b false v (resetBit b v) := by
  intro i hi
  have cases8 : i = 0 ∨ i = 1 ∨ i = 2 ∨ i = 3 ∨ i = 4 ∨ i = 5 ∨ i = 6 ∨ i = 7 := by omega
  rcases cases8 with rfl | rfl | rfl | rfl | rfl | rfl | rfl | rfl <;> cases b <;>
    simp [resetBit, bitNumber]

theorem setBit_rule (b : BitIdx) (v : Byte) : PutBitRule b true v (setBit b v) := by
  intro i hi
  have cases8 : i = 0 ∨ i = 1 ∨ i = 2 ∨ i = 3 ∨ i = 4 ∨ i = 5 ∨ i = 6 ∨ i = 7 := by omega
  rcases cases8 with rfl | rfl | rfl | rfl | rfl | rfl | rfl | rfl <;> cases b <;>
    simp [setBit, bitNumber]

end Sys2Proof.Machine
end

