-- ==== Sys2Proof/Laws/Forms.lean ====
section
/-! SUPPORT. The forms of spec/opcode_table.json: the meaning each form's constructors share, and that every
instruction has one of these forms. A proof about all instructions goes form by form. -/

namespace Sys2Proof.Machine

/-! ## The meaning of each form -/

theorem exec_ldReg (dst : Reg8) (src : Reg8) (s : State) : exec (Instr.ldReg dst src) s = copyReg dst src s := by
  cases dst <;> cases src <;> rfl
theorem exec_ldRegImm (dst : Reg8) (n : Byte) (s : State) : exec (Instr.ldRegImm dst n) s = loadImm dst n s := by
  cases dst <;> rfl
theorem exec_ldRegMem (dst : Reg8) (s : State) : exec (Instr.ldRegMem dst) s = loadFrom dst s.cpu.hl s := by
  cases dst <;> rfl
theorem exec_ldMemReg (r : Reg8) (s : State) : exec (Instr.ldMemReg r) s = storeTo s.cpu.hl (s.cpu.reg r) s := by
  cases r <;> rfl
theorem exec_ldPair (p : Pair) (nn : Word) (s : State) : exec (Instr.ldPair p nn) s = loadPairImm p nn s := by
  cases p <;> rfl
theorem exec_push (p : StackPair) (s : State) : exec (Instr.push p) s = pushPair p s := by
  cases p <;> rfl
theorem exec_pop (p : StackPair) (s : State) : exec (Instr.pop p) s = popPair p s := by
  cases p <;> rfl
theorem exec_aluReg (o : AluOp) (r : Reg8) (s : State) : exec (Instr.aluReg o r) s = aluWithReg o r s := by
  cases o <;> cases r <;> rfl
theorem exec_aluMem (o : AluOp) (s : State) : exec (Instr.aluMem o) s = aluWithMem o s := by
  cases o <;> rfl
theorem exec_aluImm (o : AluOp) (n : Byte) (s : State) : exec (Instr.aluImm o n) s = aluWithImm o n s := by
  cases o <;> rfl
theorem exec_incReg (r : Reg8) (s : State) : exec (Instr.incReg r) s = updateReg inc8 r s := by
  cases r <;> rfl
theorem exec_decReg (r : Reg8) (s : State) : exec (Instr.decReg r) s = updateReg dec8 r s := by
  cases r <;> rfl
theorem exec_addHLPair (p : Pair) (s : State) : exec (Instr.addHLPair p) s = addToHL p s := by
  cases p <;> rfl
theorem exec_incPair (p : Pair) (s : State) : exec (Instr.incPair p) s = stepPair p 1 s := by
  cases p <;> rfl
theorem exec_decPair (p : Pair) (s : State) : exec (Instr.decPair p) s = stepPair p (-1) s := by
  cases p <;> rfl
theorem exec_rotReg (o : RotOp) (r : Reg8) (s : State) : exec (Instr.rotReg o r) s = rotateReg o r s := by
  cases o <;> cases r <;> rfl
theorem exec_rotMem (o : RotOp) (s : State) : exec (Instr.rotMem o) s = rotateMem o s := by
  cases o <;> rfl
theorem exec_bitReg (b : BitIdx) (r : Reg8) (s : State) : exec (Instr.bitReg b r) s = testBitReg b r s := by
  cases b <;> cases r <;> rfl
theorem exec_bitMem (b : BitIdx) (s : State) : exec (Instr.bitMem b) s = testBitMem b s := by
  cases b <;> rfl
theorem exec_resReg (b : BitIdx) (r : Reg8) (s : State) : exec (Instr.resReg b r) s = resetBitReg b r s := by
  cases b <;> cases r <;> rfl
theorem exec_resMem (b : BitIdx) (s : State) : exec (Instr.resMem b) s = resetBitMem b s := by
  cases b <;> rfl
theorem exec_setReg (b : BitIdx) (r : Reg8) (s : State) : exec (Instr.setReg b r) s = setBitReg b r s := by
  cases b <;> cases r <;> rfl
theorem exec_setMem (b : BitIdx) (s : State) : exec (Instr.setMem b) s = setBitMem b s := by
  cases b <;> rfl
theorem exec_jpCond (cc : Cond) (nn : Word) (s : State) : exec (Instr.jpCond cc nn) s = jumpIf cc nn s := by
  cases cc <;> rfl
theorem exec_jrCond (cc : Cond) (e : Byte) (s : State) : exec (Instr.jrCond cc e) s = jumpRelativeIf cc e s := by
  cases cc <;> rfl
theorem exec_callCond (cc : Cond) (nn : Word) (s : State) : exec (Instr.callCond cc nn) s = callIf cc nn s := by
  cases cc <;> rfl
theorem exec_retCond (cc : Cond) (s : State) : exec (Instr.retCond cc) s = returnIf cc s := by
  cases cc <;> rfl
theorem exec_rst (t : RstTarget) (s : State) : exec (Instr.rst t) s = restart t s := by
  cases t <;> rfl
theorem exec_ldAtHLImm (n : Byte) (s : State) : exec (.ldAtHLImm n) s = storeTo s.cpu.hl n s := rfl
theorem exec_ldAAtBC (s : State) : exec .ldAAtBC s = loadFrom .a s.cpu.bc s := rfl
theorem exec_ldAAtDE (s : State) : exec .ldAAtDE s = loadFrom .a s.cpu.de s := rfl
theorem exec_ldAtBCA (s : State) : exec .ldAtBCA s = storeTo s.cpu.bc s.cpu.a s := rfl
theorem exec_ldAtDEA (s : State) : exec .ldAtDEA s = storeTo s.cpu.de s.cpu.a s := rfl
theorem exec_ldAAtNn (nn : Word) (s : State) : exec (.ldAAtNn nn) s = loadFrom .a nn s := rfl
theorem exec_ldAtNnA (nn : Word) (s : State) : exec (.ldAtNnA nn) s = storeTo nn s.cpu.a s := rfl
theorem exec_ldhAAtC (s : State) : exec .ldhAAtC s = loadFrom .a (highPage s.cpu.c) s := rfl
theorem exec_ldhAtCA (s : State) : exec .ldhAtCA s = storeTo (highPage s.cpu.c) s.cpu.a s := rfl
theorem exec_ldhAAtN (n : Byte) (s : State) : exec (.ldhAAtN n) s = loadFrom .a (highPage n) s := rfl
theorem exec_ldhAtNA (n : Byte) (s : State) : exec (.ldhAtNA n) s = storeTo (highPage n) s.cpu.a s := rfl
theorem exec_ldAAtHLDec (s : State) : exec .ldAAtHLDec s = loadStepping (-1) s := rfl
theorem exec_ldAtHLDecA (s : State) : exec .ldAtHLDecA s = storeStepping (-1) s := rfl
theorem exec_ldAAtHLInc (s : State) : exec .ldAAtHLInc s = loadStepping 1 s := rfl
theorem exec_ldAtHLIncA (s : State) : exec .ldAtHLIncA s = storeStepping 1 s := rfl
theorem exec_ldAtNnSP (nn : Word) (s : State) : exec (.ldAtNnSP nn) s = storeSP nn s := rfl
theorem exec_ldSPHL (s : State) : exec .ldSPHL s = finish (s.nextCycle.setPair .sp s.cpu.hl) := rfl
theorem exec_ldHLSPOff (e : Byte) (s : State) : exec (.ldHLSPOff e) s = loadHLOffset e s := rfl
theorem exec_addSPOff (e : Byte) (s : State) : exec (.addSPOff e) s = addToSP e s := rfl
theorem exec_incAtHL (s : State) : exec .incAtHL s = modifyMem inc8 s.nextCycle := rfl
theorem exec_decAtHL (s : State) : exec .decAtHL s = modifyMem dec8 s.nextCycle := rfl
theorem exec_daa (s : State) : exec .daa s = finish (s.setAF (daa s.cpu.a s.cpu.flags)) := rfl
theorem exec_cpl (s : State) : exec .cpl s = finish (s.setAF (cpl s.cpu.a s.cpu.flags)) := rfl
theorem exec_scf (s : State) : exec .scf s = finish (s.setFlags (scf s.cpu.flags)) := rfl
theorem exec_ccf (s : State) : exec .ccf s = finish (s.setFlags (ccf s.cpu.flags)) := rfl
theorem exec_rlca (s : State) : exec .rlca s = finish (s.setAF (rotateA .rlc s.cpu.a s.cpu.flags)) := rfl
theorem exec_rrca (s : State) : exec .rrca s = finish (s.setAF (rotateA .rrc s.cpu.a s.cpu.flags)) := rfl
theorem exec_rla (s : State) : exec .rla s = finish (s.setAF (rotateA .rl s.cpu.a s.cpu.flags)) := rfl
theorem exec_rra (s : State) : exec .rra s = finish (s.setAF (rotateA .rr s.cpu.a s.cpu.flags)) := rfl
theorem exec_jpImm16 (nn : Word) (s : State) : exec (.jpImm16 nn) s = jumpTo nn s := rfl
theorem exec_jpHL (s : State) : exec .jpHL s = finish (s.jump s.cpu.hl) := rfl
theorem exec_jrOff (e : Byte) (s : State) : exec (.jrOff e) s = jumpRelative e s := rfl
theorem exec_callImm16 (nn : Word) (s : State) : exec (.callImm16 nn) s = callTo nn s := rfl
theorem exec_ret (s : State) : exec .ret s = finish s.nextCycle.popPC := rfl
theorem exec_reti (s : State) : exec .reti s = finish s.nextCycle.returnFromInterrupt := rfl
theorem exec_nop (s : State) : exec .nop s = finish s := rfl
theorem exec_halt (s : State) : exec .halt s = finish (s.withCpu (s.cpu.halt s.irq)) := rfl
theorem exec_stop (n : Byte) (s : State) : exec (.stop n) s = finish (s.withCpu { s.cpu with stopped := true }) := rfl
theorem exec_di (s : State) : exec .di s = finish (s.withCpu { s.cpu with ime := false, eiCounter := 0 }) := rfl
theorem exec_ei (s : State) : exec .ei s = finish (s.withCpu { s.cpu with eiCounter := 2 }) := rfl
theorem exec_prefixCB (s : State) : exec .prefixCB s = runExtended s.nextCycle.fetch8.1 s.nextCycle.fetch8.2 := rfl

/-- The opcode byte of an unassigned row (R131); other rows have none. -/
def unassignedOpcode : Instr → Option Byte
  | .undefinedD3 => some 0xD3
  | .undefinedDB => some 0xDB
  | .undefinedDD => some 0xDD
  | .undefinedE3 => some 0xE3
  | .undefinedE4 => some 0xE4
  | .undefinedEB => some 0xEB
  | .undefinedEC => some 0xEC
  | .undefinedED => some 0xED
  | .undefinedF4 => some 0xF4
  | .undefinedFC => some 0xFC
  | .undefinedFD => some 0xFD
  | _ => none

theorem exec_unassigned {i : Instr} {op : Byte} (h : unassignedOpcode i = some op) (s : State) :
    exec i s = unassigned op s := by
  cases i <;> simp only [unassignedOpcode, Option.some.injEq, reduceCtorEq] at h <;> subst h <;> rfl

theorem mem_unassigned {i : Instr} : i ∈ Instr.unassigned ↔ ∃ op, unassignedOpcode i = some op := by
  constructor
  · intro h
    simp only [Instr.unassigned, List.mem_cons, List.not_mem_nil, or_false] at h
    rcases h with h | h | h | h | h | h | h | h | h | h | h <;> subst h <;> exact ⟨_, rfl⟩
  · rintro ⟨op, h⟩
    cases i <;> simp only [unassignedOpcode, reduceCtorEq] at h <;> simp [Instr.unassigned]

/-! ## Every instruction has a form -/

/-- To prove `P` of every instruction, prove it of every form. -/
theorem Instr.byForm {P : Instr → Prop}
    (ldReg : ∀ (dst : Reg8) (src : Reg8), P (Instr.ldReg dst src))
    (ldRegImm : ∀ (dst : Reg8) (n : Byte), P (Instr.ldRegImm dst n))
    (ldRegMem : ∀ (dst : Reg8), P (Instr.ldRegMem dst))
    (ldMemReg : ∀ (r : Reg8), P (Instr.ldMemReg r))
    (ldPair : ∀ (p : Pair) (nn : Word), P (Instr.ldPair p nn))
    (push : ∀ (p : StackPair), P (Instr.push p))
    (pop : ∀ (p : StackPair), P (Instr.pop p))
    (aluReg : ∀ (o : AluOp) (r : Reg8), P (Instr.aluReg o r))
    (aluMem : ∀ (o : AluOp), P (Instr.aluMem o))
    (aluImm : ∀ (o : AluOp) (n : Byte), P (Instr.aluImm o n))
    (incReg : ∀ (r : Reg8), P (Instr.incReg r))
    (decReg : ∀ (r : Reg8), P (Instr.decReg r))
    (addHLPair : ∀ (p : Pair), P (Instr.addHLPair p))
    (incPair : ∀ (p : Pair), P (Instr.incPair p))
    (decPair : ∀ (p : Pair), P (Instr.decPair p))
    (rotReg : ∀ (o : RotOp) (r : Reg8), P (Instr.rotReg o r))
    (rotMem : ∀ (o : RotOp), P (Instr.rotMem o))
    (bitReg : ∀ (b : BitIdx) (r : Reg8), P (Instr.bitReg b r))
    (bitMem : ∀ (b : BitIdx), P (Instr.bitMem b))
    (resReg : ∀ (b : BitIdx) (r : Reg8), P (Instr.resReg b r))
    (resMem : ∀ (b : BitIdx), P (Instr.resMem b))
    (setReg : ∀ (b : BitIdx) (r : Reg8), P (Instr.setReg b r))
    (setMem : ∀ (b : BitIdx), P (Instr.setMem b))
    (jpCond : ∀ (cc : Cond) (nn : Word), P (Instr.jpCond cc nn))
    (jrCond : ∀ (cc : Cond) (e : Byte), P (Instr.jrCond cc e))
    (callCond : ∀ (cc : Cond) (nn : Word), P (Instr.callCond cc nn))
    (retCond : ∀ (cc : Cond), P (Instr.retCond cc))
    (rst : ∀ (t : RstTarget), P (Instr.rst t))
    (ldAtHLImm : ∀ (n : Byte), P (.ldAtHLImm n))
    (ldAAtBC : P .ldAAtBC)
    (ldAAtDE : P .ldAAtDE)
    (ldAtBCA : P .ldAtBCA)
    (ldAtDEA : P .ldAtDEA)
    (ldAAtNn : ∀ (nn : Word), P (.ldAAtNn nn))
    (ldAtNnA : ∀ (nn : Word), P (.ldAtNnA nn))
    (ldhAAtC : P .ldhAAtC)
    (ldhAtCA : P .ldhAtCA)
    (ldhAAtN : ∀ (n : Byte), P (.ldhAAtN n))
    (ldhAtNA : ∀ (n : Byte), P (.ldhAtNA n))
    (ldAAtHLDec : P .ldAAtHLDec)
    (ldAtHLDecA : P .ldAtHLDecA)
    (ldAAtHLInc : P .ldAAtHLInc)
    (ldAtHLIncA : P .ldAtHLIncA)
    (ldAtNnSP : ∀ (nn : Word), P (.ldAtNnSP nn))
    (ldSPHL : P .ldSPHL)
    (ldHLSPOff : ∀ (e : Byte), P (.ldHLSPOff e))
    (addSPOff : ∀ (e : Byte), P (.addSPOff e))
    (incAtHL : P .incAtHL)
    (decAtHL : P .decAtHL)
    (daa : P .daa)
    (cpl : P .cpl)
    (scf : P .scf)
    (ccf : P .ccf)
    (rlca : P .rlca)
    (rrca : P .rrca)
    (rla : P .rla)
    (rra : P .rra)
    (jpImm16 : ∀ (nn : Word), P (.jpImm16 nn))
    (jpHL : P .jpHL)
    (jrOff : ∀ (e : Byte), P (.jrOff e))
    (callImm16 : ∀ (nn : Word), P (.callImm16 nn))
    (ret : P .ret)
    (reti : P .reti)
    (nop : P .nop)
    (halt : P .halt)
    (stop : ∀ (n : Byte), P (.stop n))
    (di : P .di)
    (ei : P .ei)
    (prefixCB : P .prefixCB)
    (unassigned : ∀ i ∈ Instr.unassigned, P i)
    (i : Instr) : P i := by
  cases i
  case ldBB => exact ldReg .b .b
  case ldBC => exact ldReg .b .c
  case ldBD => exact ldReg .b .d
  case ldBE => exact ldReg .b .e
  case ldBH => exact ldReg .b .h
  case ldBL => exact ldReg .b .l
  case ldBA => exact ldReg .b .a
  case ldCB => exact ldReg .c .b
  case ldCC => exact ldReg .c .c
  case ldCD => exact ldReg .c .d
  case ldCE => exact ldReg .c .e
  case ldCH => exact ldReg .c .h
  case ldCL => exact ldReg .c .l
  case ldCA => exact ldReg .c .a
  case ldDB => exact ldReg .d .b
  case ldDC => exact ldReg .d .c
  case ldDD => exact ldReg .d .d
  case ldDE => exact ldReg .d .e
  case ldDH => exact ldReg .d .h
  case ldDL => exact ldReg .d .l
  case ldDA => exact ldReg .d .a
  case ldEB => exact ldReg .e .b
  case ldEC => exact ldReg .e .c
  case ldED => exact ldReg .e .d
  case ldEE => exact ldReg .e .e
  case ldEH => exact ldReg .e .h
  case ldEL => exact ldReg .e .l
  case ldEA => exact ldReg .e .a
  case ldHB => exact ldReg .h .b
  case ldHC => exact ldReg .h .c
  case ldHD => exact ldReg .h .d
  case ldHE => exact ldReg .h .e
  case ldHH => exact ldReg .h .h
  case ldHL => exact ldReg .h .l
  case ldHA => exact ldReg .h .a
  case ldLB => exact ldReg .l .b
  case ldLC => exact ldReg .l .c
  case ldLD => exact ldReg .l .d
  case ldLE => exact ldReg .l .e
  case ldLH => exact ldReg .l .h
  case ldLL => exact ldReg .l .l
  case ldLA => exact ldReg .l .a
  case ldAB => exact ldReg .a .b
  case ldAC => exact ldReg .a .c
  case ldAD => exact ldReg .a .d
  case ldAE => exact ldReg .a .e
  case ldAH => exact ldReg .a .h
  case ldAL => exact ldReg .a .l
  case ldAA => exact ldReg .a .a
  case ldBImm n => exact ldRegImm .b n
  case ldCImm n => exact ldRegImm .c n
  case ldDImm n => exact ldRegImm .d n
  case ldEImm n => exact ldRegImm .e n
  case ldHImm n => exact ldRegImm .h n
  case ldLImm n => exact ldRegImm .l n
  case ldAImm n => exact ldRegImm .a n
  case ldBAtHL => exact ldRegMem .b
  case ldCAtHL => exact ldRegMem .c
  case ldDAtHL => exact ldRegMem .d
  case ldEAtHL => exact ldRegMem .e
  case ldHAtHL => exact ldRegMem .h
  case ldLAtHL => exact ldRegMem .l
  case ldAAtHL => exact ldRegMem .a
  case ldAtHLB => exact ldMemReg .b
  case ldAtHLC => exact ldMemReg .c
  case ldAtHLD => exact ldMemReg .d
  case ldAtHLE => exact ldMemReg .e
  case ldAtHLH => exact ldMemReg .h
  case ldAtHLL => exact ldMemReg .l
  case ldAtHLA => exact ldMemReg .a
  case ldBCImm16 nn => exact ldPair .bc nn
  case ldDEImm16 nn => exact ldPair .de nn
  case ldHLImm16 nn => exact ldPair .hl nn
  case ldSPImm16 nn => exact ldPair .sp nn
  case pushBC => exact push .bc
  case pushDE => exact push .de
  case pushHL => exact push .hl
  case pushAF => exact push .af
  case popBC => exact pop .bc
  case popDE => exact pop .de
  case popHL => exact pop .hl
  case popAF => exact pop .af
  case addAB => exact aluReg .add .b
  case addAC => exact aluReg .add .c
  case addAD => exact aluReg .add .d
  case addAE => exact aluReg .add .e
  case addAH => exact aluReg .add .h
  case addAL => exact aluReg .add .l
  case addAA => exact aluReg .add .a
  case adcAB => exact aluReg .adc .b
  case adcAC => exact aluReg .adc .c
  case adcAD => exact aluReg .adc .d
  case adcAE => exact aluReg .adc .e
  case adcAH => exact aluReg .adc .h
  case adcAL => exact aluReg .adc .l
  case adcAA => exact aluReg .adc .a
  case subAB => exact aluReg .sub .b
  case subAC => exact aluReg .sub .c
  case subAD => exact aluReg .sub .d
  case subAE => exact aluReg .sub .e
  case subAH => exact aluReg .sub .h
  case subAL => exact aluReg .sub .l
  case subAA => exact aluReg .sub .a
  case sbcAB => exact aluReg .sbc .b
  case sbcAC => exact aluReg .sbc .c
  case sbcAD => exact aluReg .sbc .d
  case sbcAE => exact aluReg .sbc .e
  case sbcAH => exact aluReg .sbc .h
  case sbcAL => exact aluReg .sbc .l
  case sbcAA => exact aluReg .sbc .a
  case andAB => exact aluReg .and .b
  case andAC => exact aluReg .and .c
  case andAD => exact aluReg .and .d
  case andAE => exact aluReg .and .e
  case andAH => exact aluReg .and .h
  case andAL => exact aluReg .and .l
  case andAA => exact aluReg .and .a
  case xorAB => exact aluReg .xor .b
  case xorAC => exact aluReg .xor .c
  case xorAD => exact aluReg .xor .d
  case xorAE => exact aluReg .xor .e
  case xorAH => exact aluReg .xor .h
  case xorAL => exact aluReg .xor .l
  case xorAA => exact aluReg .xor .a
  case orAB => exact aluReg .or .b
  case orAC => exact aluReg .or .c
  case orAD => exact aluReg .or .d
  case orAE => exact aluReg .or .e
  case orAH => exact aluReg .or .h
  case orAL => exact aluReg .or .l
  case orAA => exact aluReg .or .a
  case cpAB => exact aluReg .cp .b
  case cpAC => exact aluReg .cp .c
  case cpAD => exact aluReg .cp .d
  case cpAE => exact aluReg .cp .e
  case cpAH => exact aluReg .cp .h
  case cpAL => exact aluReg .cp .l
  case cpAA => exact aluReg .cp .a
  case addAAtHL => exact aluMem .add
  case adcAAtHL => exact aluMem .adc
  case subAAtHL => exact aluMem .sub
  case sbcAAtHL => exact aluMem .sbc
  case andAAtHL => exact aluMem .and
  case xorAAtHL => exact aluMem .xor
  case orAAtHL => exact aluMem .or
  case cpAAtHL => exact aluMem .cp
  case addAImm n => exact aluImm .add n
  case adcAImm n => exact aluImm .adc n
  case subAImm n => exact aluImm .sub n
  case sbcAImm n => exact aluImm .sbc n
  case andAImm n => exact aluImm .and n
  case xorAImm n => exact aluImm .xor n
  case orAImm n => exact aluImm .or n
  case cpAImm n => exact aluImm .cp n
  case incB => exact incReg .b
  case incC => exact incReg .c
  case incD => exact incReg .d
  case incE => exact incReg .e
  case incH => exact incReg .h
  case incL => exact incReg .l
  case incA => exact incReg .a
  case decB => exact decReg .b
  case decC => exact decReg .c
  case decD => exact decReg .d
  case decE => exact decReg .e
  case decH => exact decReg .h
  case decL => exact decReg .l
  case decA => exact decReg .a
  case addHLBC => exact addHLPair .bc
  case addHLDE => exact addHLPair .de
  case addHLHL => exact addHLPair .hl
  case addHLSP => exact addHLPair .sp
  case incBC => exact incPair .bc
  case incDE => exact incPair .de
  case incHL => exact incPair .hl
  case incSP => exact incPair .sp
  case decBC => exact decPair .bc
  case decDE => exact decPair .de
  case decHL => exact decPair .hl
  case decSP => exact decPair .sp
  case rlcB => exact rotReg .rlc .b
  case rlcC => exact rotReg .rlc .c
  case rlcD => exact rotReg .rlc .d
  case rlcE => exact rotReg .rlc .e
  case rlcH => exact rotReg .rlc .h
  case rlcL => exact rotReg .rlc .l
  case rlcA => exact rotReg .rlc .a
  case rrcB => exact rotReg .rrc .b
  case rrcC => exact rotReg .rrc .c
  case rrcD => exact rotReg .rrc .d
  case rrcE => exact rotReg .rrc .e
  case rrcH => exact rotReg .rrc .h
  case rrcL => exact rotReg .rrc .l
  case rrcA => exact rotReg .rrc .a
  case rlB => exact rotReg .rl .b
  case rlC => exact rotReg .rl .c
  case rlD => exact rotReg .rl .d
  case rlE => exact rotReg .rl .e
  case rlH => exact rotReg .rl .h
  case rlL => exact rotReg .rl .l
  case rlA => exact rotReg .rl .a
  case rrB => exact rotReg .rr .b
  case rrC => exact rotReg .rr .c
  case rrD => exact rotReg .rr .d
  case rrE => exact rotReg .rr .e
  case rrH => exact rotReg .rr .h
  case rrL => exact rotReg .rr .l
  case rrA => exact rotReg .rr .a
  case slaB => exact rotReg .sla .b
  case slaC => exact rotReg .sla .c
  case slaD => exact rotReg .sla .d
  case slaE => exact rotReg .sla .e
  case slaH => exact rotReg .sla .h
  case slaL => exact rotReg .sla .l
  case slaA => exact rotReg .sla .a
  case sraB => exact rotReg .sra .b
  case sraC => exact rotReg .sra .c
  case sraD => exact rotReg .sra .d
  case sraE => exact rotReg .sra .e
  case sraH => exact rotReg .sra .h
  case sraL => exact rotReg .sra .l
  case sraA => exact rotReg .sra .a
  case swapB => exact rotReg .swap .b
  case swapC => exact rotReg .swap .c
  case swapD => exact rotReg .swap .d
  case swapE => exact rotReg .swap .e
  case swapH => exact rotReg .swap .h
  case swapL => exact rotReg .swap .l
  case swapA => exact rotReg .swap .a
  case srlB => exact rotReg .srl .b
  case srlC => exact rotReg .srl .c
  case srlD => exact rotReg .srl .d
  case srlE => exact rotReg .srl .e
  case srlH => exact rotReg .srl .h
  case srlL => exact rotReg .srl .l
  case srlA => exact rotReg .srl .a
  case rlcAtHL => exact rotMem .rlc
  case rrcAtHL => exact rotMem .rrc
  case rlAtHL => exact rotMem .rl
  case rrAtHL => exact rotMem .rr
  case slaAtHL => exact rotMem .sla
  case sraAtHL => exact rotMem .sra
  case swapAtHL => exact rotMem .swap
  case srlAtHL => exact rotMem .srl
  case bit0B => exact bitReg .b0 .b
  case bit0C => exact bitReg .b0 .c
  case bit0D => exact bitReg .b0 .d
  case bit0E => exact bitReg .b0 .e
  case bit0H => exact bitReg .b0 .h
  case bit0L => exact bitReg .b0 .l
  case bit0A => exact bitReg .b0 .a
  case bit1B => exact bitReg .b1 .b
  case bit1C => exact bitReg .b1 .c
  case bit1D => exact bitReg .b1 .d
  case bit1E => exact bitReg .b1 .e
  case bit1H => exact bitReg .b1 .h
  case bit1L => exact bitReg .b1 .l
  case bit1A => exact bitReg .b1 .a
  case bit2B => exact bitReg .b2 .b
  case bit2C => exact bitReg .b2 .c
  case bit2D => exact bitReg .b2 .d
  case bit2E => exact bitReg .b2 .e
  case bit2H => exact bitReg .b2 .h
  case bit2L => exact bitReg .b2 .l
  case bit2A => exact bitReg .b2 .a
  case bit3B => exact bitReg .b3 .b
  case bit3C => exact bitReg .b3 .c
  case bit3D => exact bitReg .b3 .d
  case bit3E => exact bitReg .b3 .e
  case bit3H => exact bitReg .b3 .h
  case bit3L => exact bitReg .b3 .l
  case bit3A => exact bitReg .b3 .a
  case bit4B => exact bitReg .b4 .b
  case bit4C => exact bitReg .b4 .c
  case bit4D => exact bitReg .b4 .d
  case bit4E => exact bitReg .b4 .e
  case bit4H => exact bitReg .b4 .h
  case bit4L => exact bitReg .b4 .l
  case bit4A => exact bitReg .b4 .a
  case bit5B => exact bitReg .b5 .b
  case bit5C => exact bitReg .b5 .c
  case bit5D => exact bitReg .b5 .d
  case bit5E => exact bitReg .b5 .e
  case bit5H => exact bitReg .b5 .h
  case bit5L => exact bitReg .b5 .l
  case bit5A => exact bitReg .b5 .a
  case bit6B => exact bitReg .b6 .b
  case bit6C => exact bitReg .b6 .c
  case bit6D => exact bitReg .b6 .d
  case bit6E => exact bitReg .b6 .e
  case bit6H => exact bitReg .b6 .h
  case bit6L => exact bitReg .b6 .l
  case bit6A => exact bitReg .b6 .a
  case bit7B => exact bitReg .b7 .b
  case bit7C => exact bitReg .b7 .c
  case bit7D => exact bitReg .b7 .d
  case bit7E => exact bitReg .b7 .e
  case bit7H => exact bitReg .b7 .h
  case bit7L => exact bitReg .b7 .l
  case bit7A => exact bitReg .b7 .a
  case bit0AtHL => exact bitMem .b0
  case bit1AtHL => exact bitMem .b1
  case bit2AtHL => exact bitMem .b2
  case bit3AtHL => exact bitMem .b3
  case bit4AtHL => exact bitMem .b4
  case bit5AtHL => exact bitMem .b5
  case bit6AtHL => exact bitMem .b6
  case bit7AtHL => exact bitMem .b7
  case res0B => exact resReg .b0 .b
  case res0C => exact resReg .b0 .c
  case res0D => exact resReg .b0 .d
  case res0E => exact resReg .b0 .e
  case res0H => exact resReg .b0 .h
  case res0L => exact resReg .b0 .l
  case res0A => exact resReg .b0 .a
  case res1B => exact resReg .b1 .b
  case res1C => exact resReg .b1 .c
  case res1D => exact resReg .b1 .d
  case res1E => exact resReg .b1 .e
  case res1H => exact resReg .b1 .h
  case res1L => exact resReg .b1 .l
  case res1A => exact resReg .b1 .a
  case res2B => exact resReg .b2 .b
  case res2C => exact resReg .b2 .c
  case res2D => exact resReg .b2 .d
  case res2E => exact resReg .b2 .e
  case res2H => exact resReg .b2 .h
  case res2L => exact resReg .b2 .l
  case res2A => exact resReg .b2 .a
  case res3B => exact resReg .b3 .b
  case res3C => exact resReg .b3 .c
  case res3D => exact resReg .b3 .d
  case res3E => exact resReg .b3 .e
  case res3H => exact resReg .b3 .h
  case res3L => exact resReg .b3 .l
  case res3A => exact resReg .b3 .a
  case res4B => exact resReg .b4 .b
  case res4C => exact resReg .b4 .c
  case res4D => exact resReg .b4 .d
  case res4E => exact resReg .b4 .e
  case res4H => exact resReg .b4 .h
  case res4L => exact resReg .b4 .l
  case res4A => exact resReg .b4 .a
  case res5B => exact resReg .b5 .b
  case res5C => exact resReg .b5 .c
  case res5D => exact resReg .b5 .d
  case res5E => exact resReg .b5 .e
  case res5H => exact resReg .b5 .h
  case res5L => exact resReg .b5 .l
  case res5A => exact resReg .b5 .a
  case res6B => exact resReg .b6 .b
  case res6C => exact resReg .b6 .c
  case res6D => exact resReg .b6 .d
  case res6E => exact resReg .b6 .e
  case res6H => exact resReg .b6 .h
  case res6L => exact resReg .b6 .l
  case res6A => exact resReg .b6 .a
  case res7B => exact resReg .b7 .b
  case res7C => exact resReg .b7 .c
  case res7D => exact resReg .b7 .d
  case res7E => exact resReg .b7 .e
  case res7H => exact resReg .b7 .h
  case res7L => exact resReg .b7 .l
  case res7A => exact resReg .b7 .a
  case res0AtHL => exact resMem .b0
  case res1AtHL => exact resMem .b1
  case res2AtHL => exact resMem .b2
  case res3AtHL => exact resMem .b3
  case res4AtHL => exact resMem .b4
  case res5AtHL => exact resMem .b5
  case res6AtHL => exact resMem .b6
  case res7AtHL => exact resMem .b7
  case set0B => exact setReg .b0 .b
  case set0C => exact setReg .b0 .c
  case set0D => exact setReg .b0 .d
  case set0E => exact setReg .b0 .e
  case set0H => exact setReg .b0 .h
  case set0L => exact setReg .b0 .l
  case set0A => exact setReg .b0 .a
  case set1B => exact setReg .b1 .b
  case set1C => exact setReg .b1 .c
  case set1D => exact setReg .b1 .d
  case set1E => exact setReg .b1 .e
  case set1H => exact setReg .b1 .h
  case set1L => exact setReg .b1 .l
  case set1A => exact setReg .b1 .a
  case set2B => exact setReg .b2 .b
  case set2C => exact setReg .b2 .c
  case set2D => exact setReg .b2 .d
  case set2E => exact setReg .b2 .e
  case set2H => exact setReg .b2 .h
  case set2L => exact setReg .b2 .l
  case set2A => exact setReg .b2 .a
  case set3B => exact setReg .b3 .b
  case set3C => exact setReg .b3 .c
  case set3D => exact setReg .b3 .d
  case set3E => exact setReg .b3 .e
  case set3H => exact setReg .b3 .h
  case set3L => exact setReg .b3 .l
  case set3A => exact setReg .b3 .a
  case set4B => exact setReg .b4 .b
  case set4C => exact setReg .b4 .c
  case set4D => exact setReg .b4 .d
  case set4E => exact setReg .b4 .e
  case set4H => exact setReg .b4 .h
  case set4L => exact setReg .b4 .l
  case set4A => exact setReg .b4 .a
  case set5B => exact setReg .b5 .b
  case set5C => exact setReg .b5 .c
  case set5D => exact setReg .b5 .d
  case set5E => exact setReg .b5 .e
  case set5H => exact setReg .b5 .h
  case set5L => exact setReg .b5 .l
  case set5A => exact setReg .b5 .a
  case set6B => exact setReg .b6 .b
  case set6C => exact setReg .b6 .c
  case set6D => exact setReg .b6 .d
  case set6E => exact setReg .b6 .e
  case set6H => exact setReg .b6 .h
  case set6L => exact setReg .b6 .l
  case set6A => exact setReg .b6 .a
  case set7B => exact setReg .b7 .b
  case set7C => exact setReg .b7 .c
  case set7D => exact setReg .b7 .d
  case set7E => exact setReg .b7 .e
  case set7H => exact setReg .b7 .h
  case set7L => exact setReg .b7 .l
  case set7A => exact setReg .b7 .a
  case set0AtHL => exact setMem .b0
  case set1AtHL => exact setMem .b1
  case set2AtHL => exact setMem .b2
  case set3AtHL => exact setMem .b3
  case set4AtHL => exact setMem .b4
  case set5AtHL => exact setMem .b5
  case set6AtHL => exact setMem .b6
  case set7AtHL => exact setMem .b7
  case jpNZImm16 nn => exact jpCond .nz nn
  case jpZImm16 nn => exact jpCond .z nn
  case jpNCImm16 nn => exact jpCond .nc nn
  case jpCImm16 nn => exact jpCond .c nn
  case jrNZOff e => exact jrCond .nz e
  case jrZOff e => exact jrCond .z e
  case jrNCOff e => exact jrCond .nc e
  case jrCOff e => exact jrCond .c e
  case callNZImm16 nn => exact callCond .nz nn
  case callZImm16 nn => exact callCond .z nn
  case callNCImm16 nn => exact callCond .nc nn
  case callCImm16 nn => exact callCond .c nn
  case retNZ => exact retCond .nz
  case retZ => exact retCond .z
  case retNC => exact retCond .nc
  case retC => exact retCond .c
  case rst00H => exact rst .t00
  case rst08H => exact rst .t08
  case rst10H => exact rst .t10
  case rst18H => exact rst .t18
  case rst20H => exact rst .t20
  case rst28H => exact rst .t28
  case rst30H => exact rst .t30
  case rst38H => exact rst .t38
  case ldAtHLImm n => exact ldAtHLImm n
  case ldAAtBC => exact ldAAtBC
  case ldAAtDE => exact ldAAtDE
  case ldAtBCA => exact ldAtBCA
  case ldAtDEA => exact ldAtDEA
  case ldAAtNn nn => exact ldAAtNn nn
  case ldAtNnA nn => exact ldAtNnA nn
  case ldhAAtC => exact ldhAAtC
  case ldhAtCA => exact ldhAtCA
  case ldhAAtN n => exact ldhAAtN n
  case ldhAtNA n => exact ldhAtNA n
  case ldAAtHLDec => exact ldAAtHLDec
  case ldAtHLDecA => exact ldAtHLDecA
  case ldAAtHLInc => exact ldAAtHLInc
  case ldAtHLIncA => exact ldAtHLIncA
  case ldAtNnSP nn => exact ldAtNnSP nn
  case ldSPHL => exact ldSPHL
  case ldHLSPOff e => exact ldHLSPOff e
  case addSPOff e => exact addSPOff e
  case incAtHL => exact incAtHL
  case decAtHL => exact decAtHL
  case daa => exact daa
  case cpl => exact cpl
  case scf => exact scf
  case ccf => exact ccf
  case rlca => exact rlca
  case rrca => exact rrca
  case rla => exact rla
  case rra => exact rra
  case jpImm16 nn => exact jpImm16 nn
  case jpHL => exact jpHL
  case jrOff e => exact jrOff e
  case callImm16 nn => exact callImm16 nn
  case ret => exact ret
  case reti => exact reti
  case nop => exact nop
  case halt => exact halt
  case stop n => exact stop n
  case di => exact di
  case ei => exact ei
  case prefixCB => exact prefixCB
  case undefinedD3 => exact unassigned _ (by simp [Instr.unassigned])
  case undefinedDB => exact unassigned _ (by simp [Instr.unassigned])
  case undefinedDD => exact unassigned _ (by simp [Instr.unassigned])
  case undefinedE3 => exact unassigned _ (by simp [Instr.unassigned])
  case undefinedE4 => exact unassigned _ (by simp [Instr.unassigned])
  case undefinedEB => exact unassigned _ (by simp [Instr.unassigned])
  case undefinedEC => exact unassigned _ (by simp [Instr.unassigned])
  case undefinedED => exact unassigned _ (by simp [Instr.unassigned])
  case undefinedF4 => exact unassigned _ (by simp [Instr.unassigned])
  case undefinedFC => exact unassigned _ (by simp [Instr.unassigned])
  case undefinedFD => exact unassigned _ (by simp [Instr.unassigned])

end Sys2Proof.Machine
end

