-- ==== Sys2Proof/Laws/Runs.lean ====
section
/-! SUPPORT. How a statement `RunsAs` about one form is assembled: its encoding, the state its meaning
finishes in, that state's time and frame. -/

namespace Sys2Proof.Machine

/-- A form whose meaning finishes in `t`. -/
theorem RunsAs.of {i : Instr} {bytes : List Byte} {m : Nat} {s t : State} {post : State → Prop}
    (encodes : encode i = bytes) (runs : exec i s = finish t)
    (time : s.NeverFreezes →
      t.elapsedCycles + 4 + 4 * bytes.length = s.elapsedCycles + 4 * (m + 1))
    (holds : post t.endTick) : RunsAs i bytes m s post :=
  ⟨encodes, t.endTick, runs, fun h => by simpa using time h, holds⟩

/-- The frame of a form that acts on the CPU alone, in the M-cycle of `u`. -/
theorem State.Frame.endsStoring {s u : State} (h : s.Frame u) (r : Cpu) :
    s.StoresNothing (u.withCpu r).endTick :=
  ((h.withCpu r).trans (State.endTick_frame _)).stores

theorem State.nextCycle2_frame (s : State) : s.Frame s.nextCycle.nextCycle :=
  s.nextCycle_frame.trans s.nextCycle.nextCycle_frame

theorem State.nextCycle3_frame (s : State) : s.Frame s.nextCycle.nextCycle.nextCycle :=
  s.nextCycle2_frame.trans (State.nextCycle_frame _)

theorem State.nextCycle4_frame (s : State) : s.Frame s.nextCycle.nextCycle.nextCycle.nextCycle :=
  s.nextCycle3_frame.trans (State.nextCycle_frame _)

/-- What `Push16` is: two stores, one M-cycle apart, SP two lower. -/
theorem State.push16_eq (s : State) (w : Word) :
    s.push16 w = (((s.busWrite (s.cpu.sp - 1) (highByte w)).nextCycle).busWrite (s.cpu.sp - 2)
      (lowByte w)).withCpu { s.cpu with sp := s.cpu.sp - 2 } := by
  have e : s.cpu.sp - 1#16 - 1#16 = s.cpu.sp - 2#16 := by
    rw [BitVec.sub_sub]; rfl
  simp [State.push16, State.pushByte, e]

/-- What `Pop16` is: two reads, one M-cycle apart, SP two higher. -/
theorem State.pop16_eq (s : State) :
    s.pop16 = (joinBytes (s.nextCycle.busRead (s.cpu.sp + 1)) (s.busRead s.cpu.sp),
      s.nextCycle.withCpu { s.cpu with sp := s.cpu.sp + 2 }) := by
  have e : s.cpu.sp + 1#16 + 1#16 = s.cpu.sp + 2#16 := by
    rw [BitVec.add_assoc]; rfl
  simp [State.pop16, State.popByte, e]

/-- What a return does with PC and SP. -/
theorem State.popPC_eq (s : State) :
    s.popPC = s.nextCycle.nextCycle.withCpu { s.cpu with
      sp := s.cpu.sp + 2
      pc := joinBytes (s.nextCycle.busRead (s.cpu.sp + 1)) (s.busRead s.cpu.sp) } := by
  simp [State.popPC, State.pop16_eq, State.jump]

/-- What a read-modify-write of the byte at HL is: a read in one M-cycle, a store in the next. -/
theorem modifyMem_eq (f : Byte → Flags → Byte × Flags) (s : State) :
    modifyMem f s.nextCycle =
      let res := f (s.nextCycle.busRead s.cpu.hl) s.cpu.flags
      finish ((s.nextCycle.nextCycle.busWrite s.cpu.hl res.1).withCpu
        { s.cpu with flags := res.2 }) := by
  simp [modifyMem, State.setFlags]

end Sys2Proof.Machine
end

