-- ==== Sys2Proof/Laws/Steps.lean ====
section
/-! SUPPORT. What one instruction and one step can do, said once: they move only by changes of the CPU's
registers, by CPU writes and by M-cycles, and a step also by clearing one pending bit. A property of states
that all of these keep is kept by every step. -/

namespace Sys2Proof.Machine

/-- From `q` to `r` no control bit of the CPU gets set, and the EI counter stays in its range. -/
structure Cpu.Calms (q r : Cpu) : Prop where
  halted  : r.halted = true → q.halted = true
  stopped : r.stopped = true → q.stopped = true
  haltBug : r.haltBug = true → q.haltBug = true
  counter : r.eiCounter ≤ q.eiCounter ∨ r.eiCounter ≤ 2

theorem Cpu.Calms.of_eq {q r : Cpu} (h1 : r.halted = q.halted) (h2 : r.stopped = q.stopped)
    (h3 : r.haltBug = q.haltBug) (h4 : r.eiCounter = q.eiCounter) : q.Calms r :=
  ⟨fun h => h1 ▸ h, fun h => h2 ▸ h, fun h => h3 ▸ h, .inl (by omega)⟩

/-- A property of the states inside a tick that an instruction's actions keep. -/
structure Keeps (P : State → Prop) : Prop where
  regs  : ∀ s r, P s → s.cpu.Calms r → P (s.withCpu r)
  write : ∀ s a v, P s → P (s.busWrite a v)
  cycle : ∀ s, P s → P s.nextCycle

theorem Cpu.setReg_calms (q : Cpu) (r : Reg8) (v : Byte) : q.Calms (q.setReg r v) := by
  cases r <;> exact .of_eq rfl rfl rfl rfl

theorem Cpu.setPair_calms (q : Cpu) (p : Pair) (w : Word) : q.Calms (q.setPair p w) := by
  cases p <;> exact .of_eq rfl rfl rfl rfl

theorem Cpu.setStackPair_calms (q : Cpu) (p : StackPair) (w : Word) : q.Calms (q.setStackPair p w) := by
  cases p <;> exact .of_eq rfl rfl rfl rfl

namespace Keeps

variable {P : State → Prop}

theorem setReg (k : Keeps P) {s : State} (h : P s) (r : Reg8) (v : Byte) : P (s.setReg r v) :=
  k.regs s _ h (s.cpu.setReg_calms r v)

theorem setPair (k : Keeps P) {s : State} (h : P s) (p : Pair) (w : Word) : P (s.setPair p w) :=
  k.regs s _ h (s.cpu.setPair_calms p w)

theorem setFlags (k : Keeps P) {s : State} (h : P s) (f : Flags) : P (s.setFlags f) :=
  k.regs s _ h (.of_eq rfl rfl rfl rfl)

theorem setAF (k : Keeps P) {s : State} (h : P s) (r : Byte × Flags) : P (s.setAF r) :=
  k.regs s _ h (.of_eq rfl rfl rfl rfl)

theorem jump (k : Keeps P) {s : State} (h : P s) (w : Word) : P (s.jump w) :=
  k.regs s _ h (.of_eq rfl rfl rfl rfl)

theorem push16 (k : Keeps P) {s : State} (h : P s) (w : Word) : P (s.push16 w) := by
  rw [State.push16_eq]
  exact k.regs _ _ (k.write _ _ _ (k.cycle _ (k.write _ _ _ h))) (by simpa using .of_eq rfl rfl rfl rfl)

theorem pop16 (k : Keeps P) {s : State} (h : P s) : P s.pop16.2 := by
  rw [State.pop16_eq]
  exact k.regs _ _ (k.cycle _ h) (by simpa using .of_eq rfl rfl rfl rfl)

theorem popPC (k : Keeps P) {s : State} (h : P s) : P s.popPC := by
  rw [State.popPC_eq]
  exact k.regs _ _ (k.cycle _ (k.cycle _ h)) (by simpa using .of_eq rfl rfl rfl rfl)

theorem fetch8 (k : Keeps P) {s : State} (h : P s) : P s.fetch8.2 :=
  k.regs s _ h (.of_eq rfl rfl rfl rfl)

theorem fetchOperands (k : Keeps P) (n : Nat) {s : State} (h : P s) : P (s.fetchOperands n).2 := by
  induction n generalizing s with
  | zero => exact h
  | succ n ih => exact ih (k.fetch8 (k.cycle _ h))

theorem fetchInstr (k : Keeps P) {s : State} (h : P s) : P s.fetchInstr.2 := by
  have op : P s.opcodeFetch.2 := by
    unfold State.opcodeFetch
    split
    · exact k.regs s _ h ⟨id, id, by simp, .inl (Nat.le_refl _)⟩
    · exact k.fetch8 h
  exact k.fetchOperands _ op

theorem wake (k : Keeps P) {s : State} (h : P s) : P s.wake := by
  have h1 : P (s.withCpu { s.cpu with halted := false }) :=
    k.regs s _ h ⟨by simp, id, id, .inl (Nat.le_refl _)⟩
  unfold State.wake
  dsimp only
  split
  · exact k.cycle _ (k.regs _ _ h1 ⟨id, by simp, id, .inl (Nat.le_refl _)⟩)
  · exact h1

theorem countEi (k : Keeps P) {s : State} (h : P s) : P (s.withCpu s.cpu.countEi) := by
  refine k.regs s _ h ?_
  unfold Cpu.countEi
  split
  · exact ⟨id, id, id, .inl (Nat.sub_le _ _)⟩
  · exact .of_eq rfl rfl rfl rfl

/-- The answer is a next state, and the state in its last M-cycle has `P`. -/
def Ends (P : State → Prop) (r : Result) : Prop := ∃ u, P u ∧ r = finish u

theorem Ends.finish {u : State} (h : P u) : Ends P (finish u) := ⟨u, h, rfl⟩

theorem modifyMem (k : Keeps P) {s : State} (h : P s) (f : Byte → Flags → Byte × Flags) :
    Ends P (modifyMem f s) :=
  .finish (k.setFlags (k.write _ _ _ (k.cycle _ h)) _)

theorem loadFrom (k : Keeps P) {s : State} (h : P s) (r : Reg8) (a : Word) : Ends P (loadFrom r a s) :=
  .finish (k.setReg (k.cycle _ h) _ _)

theorem storeTo (k : Keeps P) {s : State} (h : P s) (a : Word) (v : Byte) : Ends P (storeTo a v s) :=
  .finish (k.write _ _ _ (k.cycle _ h))

theorem jumpTo (k : Keeps P) {s : State} (h : P s) (w : Word) : Ends P (jumpTo w s) :=
  .finish (k.jump (k.cycle _ h) _)

theorem callTo (k : Keeps P) {s : State} (h : P s) (w : Word) : Ends P (callTo w s) :=
  .finish (k.jump (k.push16 (k.cycle _ (k.cycle _ h)) _) _)

theorem updateReg (k : Keeps P) {s : State} (h : P s) (f : Byte → Flags → Byte × Flags) (r : Reg8) :
    Ends P (updateReg f r s) :=
  .finish (k.setFlags (k.setReg h _ _) _)

theorem runExtended (k : Keeps P) {s : State} (h : P s) (op2 : Byte) : Ends P (runExtended op2 s) := by
  unfold Sys2Proof.Machine.runExtended
  dsimp only
  generalize operand8 (fieldZ op2) = o
  generalize fieldX op2 = x
  match x, o with
  | 0, .reg r => exact k.updateReg h _ _
  | 0, .mem => exact k.modifyMem (k.cycle _ h) _
  | 1, .reg r => exact .finish (k.setFlags h _)
  | 1, .mem => exact .finish (k.setFlags (k.cycle _ h) _)
  | 2, .reg r => exact .finish (k.setReg h _ _)
  | 2, .mem => exact k.modifyMem (k.cycle _ h) _
  | n + 3, .reg r => exact .finish (k.setReg h _ _)
  | n + 3, .mem => exact k.modifyMem (k.cycle _ h) _

end Keeps

open Keeps in
/-- Every instruction but HALT, STOP and the unassigned opcodes ends in a state with `P`. -/
theorem Keeps.execEnds {P : State → Prop} (k : Keeps P) (i : Instr) (h1 : i ≠ .halt) (h2 : ∀ n, i ≠ .stop n)
    (h3 : unassignedOpcode i = none) {s : State} (h : P s) : Ends P (exec i s) := by
  have c := fun s (h : P s) => k.cycle s h
  revert h1 h2 h3
  induction i using Instr.byForm
  all_goals intro h1 h2 h3
  case ldReg => rw [exec_ldReg]; exact .finish (k.setReg h _ _)
  case ldRegImm => rw [exec_ldRegImm]; exact .finish (k.setReg h _ _)
  case ldRegMem => rw [exec_ldRegMem]; exact k.loadFrom h _ _
  case ldMemReg => rw [exec_ldMemReg]; exact k.storeTo h _ _
  case ldPair => rw [exec_ldPair]; exact .finish (k.setPair h _ _)
  case push => rw [exec_push]; exact .finish (k.push16 (c _ (c _ h)) _)
  case pop => rw [exec_pop]; exact .finish (k.regs _ _ (k.pop16 (c _ h)) (Cpu.setStackPair_calms _ _ _))
  case aluReg => rw [exec_aluReg]; exact .finish (k.setAF h _)
  case aluMem => rw [exec_aluMem]; exact .finish (k.setAF (c _ h) _)
  case aluImm => rw [exec_aluImm]; exact .finish (k.setAF h _)
  case incReg => rw [exec_incReg]; exact k.updateReg h _ _
  case decReg => rw [exec_decReg]; exact k.updateReg h _ _
  case addHLPair => rw [exec_addHLPair]; exact .finish (k.setFlags (k.setPair (c _ h) _ _) _)
  case incPair => rw [exec_incPair]; exact .finish (k.setPair (c _ h) _ _)
  case decPair => rw [exec_decPair]; exact .finish (k.setPair (c _ h) _ _)
  case rotReg => rw [exec_rotReg]; exact k.updateReg h _ _
  case rotMem => rw [exec_rotMem]; exact k.modifyMem (c _ h) _
  case bitReg => rw [exec_bitReg]; exact .finish (k.setFlags h _)
  case bitMem => rw [exec_bitMem]; exact .finish (k.setFlags (c _ h) _)
  case resReg => rw [exec_resReg]; exact .finish (k.setReg h _ _)
  case resMem => rw [exec_resMem]; exact k.modifyMem (c _ h) _
  case setReg => rw [exec_setReg]; exact .finish (k.setReg h _ _)
  case setMem => rw [exec_setMem]; exact k.modifyMem (c _ h) _
  case jpCond => rw [exec_jpCond]; unfold jumpIf; split; exacts [k.jumpTo h _, .finish h]
  case jrCond => rw [exec_jrCond]; unfold jumpRelativeIf; split; exacts [k.jumpTo h _, .finish h]
  case callCond => rw [exec_callCond]; unfold callIf; split; exacts [k.callTo h _, .finish h]
  case retCond =>
    rw [exec_retCond]; unfold returnIf; dsimp only
    split; exacts [.finish (k.popPC (c _ (c _ h))), .finish (c _ h)]
  case rst => rw [exec_rst]; exact k.callTo h _
  case ldAtHLImm => exact k.storeTo h _ _
  case ldAAtBC => exact k.loadFrom h _ _
  case ldAAtDE => exact k.loadFrom h _ _
  case ldAtBCA => exact k.storeTo h _ _
  case ldAtDEA => exact k.storeTo h _ _
  case ldAAtNn => exact k.loadFrom h _ _
  case ldAtNnA => exact k.storeTo h _ _
  case ldhAAtC => exact k.loadFrom h _ _
  case ldhAtCA => exact k.storeTo h _ _
  case ldhAAtN => exact k.loadFrom h _ _
  case ldhAtNA => exact k.storeTo h _ _
  case ldAAtHLDec => exact .finish (k.setPair (k.setReg (c _ h) _ _) _ _)
  case ldAtHLDecA => exact .finish (k.setPair (k.write _ _ _ (c _ h)) _ _)
  case ldAAtHLInc => exact .finish (k.setPair (k.setReg (c _ h) _ _) _ _)
  case ldAtHLIncA => exact .finish (k.setPair (k.write _ _ _ (c _ h)) _ _)
  case ldAtNnSP => exact .finish (k.write _ _ _ (c _ (k.write _ _ _ (c _ h))))
  case ldSPHL => exact .finish (k.setPair (c _ h) _ _)
  case ldHLSPOff => exact .finish (k.setFlags (k.setPair (c _ h) _ _) _)
  case addSPOff => exact .finish (k.setFlags (k.setPair (c _ (c _ h)) _ _) _)
  case incAtHL => exact k.modifyMem (c _ h) _
  case decAtHL => exact k.modifyMem (c _ h) _
  case daa => exact .finish (k.setAF h _)
  case cpl => exact .finish (k.setAF h _)
  case scf => exact .finish (k.setFlags h _)
  case ccf => exact .finish (k.setFlags h _)
  case rlca => exact .finish (k.setAF h _)
  case rrca => exact .finish (k.setAF h _)
  case rla => exact .finish (k.setAF h _)
  case rra => exact .finish (k.setAF h _)
  case jpImm16 => exact k.jumpTo h _
  case jpHL => exact .finish (k.jump h _)
  case jrOff => exact k.jumpTo h _
  case callImm16 => exact k.callTo h _
  case ret => exact .finish (k.popPC (c _ h))
  case reti => exact .finish (k.regs _ _ (k.popPC (c _ h)) (.of_eq rfl rfl rfl rfl))
  case nop => exact .finish h
  case halt => exact absurd rfl h1
  case stop n => exact absurd rfl (h2 n)
  case di => exact .finish (k.regs _ _ h ⟨id, id, id, .inl (Nat.zero_le _)⟩)
  case ei => exact .finish (k.regs _ _ h ⟨id, id, id, .inr (Nat.le_refl _)⟩)
  case prefixCB => exact k.runExtended (k.fetch8 (c _ h)) _
  case unassigned i hi => rw [(mem_unassigned.1 hi).choose_spec] at h3; cases h3

/-- What an instruction's next state can be. -/
theorem Keeps.exec_next {P : State → Prop} (k : Keeps P) {i : Instr} {s t : State} (h : P s)
    (e : exec i s = .next t) : ∃ u, t = u.endTick ∧ (P u
      ∨ (∃ v, P v ∧ u = v.withCpu (v.cpu.halt v.irq))
      ∨ ∃ v, P v ∧ u = v.withCpu { v.cpu with stopped := true }) := by
  by_cases h1 : i = .halt
  · subst h1; exact ⟨_, (Host.Outcome.next.inj e).symm, .inr (.inl ⟨s, h, rfl⟩)⟩
  by_cases h2 : ∃ n, i = .stop n
  · obtain ⟨n, rfl⟩ := h2; exact ⟨_, (Host.Outcome.next.inj e).symm, .inr (.inr ⟨s, h, rfl⟩)⟩
  cases h3 : unassignedOpcode i with
  | none =>
    obtain ⟨u, hu, g⟩ := k.execEnds i h1 (fun n e => h2 ⟨n, e⟩) h3 h
    rw [e] at g; cases g
    exact ⟨u, rfl, .inl hu⟩
  | some op =>
    rw [exec_unassigned h3, unassigned] at e
    split at e
    · cases e; exact ⟨s, rfl, .inl h⟩
    · cases e

/-- What a step's next state can be: the end of the CPU iteration's last M-cycle in which it idled, ran
an instruction from a state with the CPU awake, or took an interrupt. -/
theorem Keeps.step_next {P : State → Prop} (k : Keeps P) {s t : State} (h : P s.startTick)
    (e : step s = .next t) :
    (∃ u, P u ∧ t = u.endTick)
    ∨ (∃ i u, P u ∧ u.cpu.halted = false ∧ u.cpu.stopped = false ∧ exec i u.fetchInstr.2 = .next t)
    ∨ ∃ i u, P u ∧ t = (u.clear i).endTick := by
  have run : ∀ u : State, P u → u.runOrIdle = .next t → (∃ u, P u ∧ t = u.endTick)
      ∨ (∃ i u, P u ∧ u.cpu.halted = false ∧ u.cpu.stopped = false ∧ exec i u.fetchInstr.2 = .next t) := by
    intro u hu e
    unfold State.runOrIdle at e
    split at e
    · cases e; exact .inl ⟨u, hu, rfl⟩
    · rename_i hw
      simp only [Bool.or_eq_true, not_or, Bool.not_eq_true] at hw
      unfold State.fetchAndRun at e
      split at e
      · exact .inr ⟨_, u, hu, hw.1, hw.2, e⟩
      · cases e
      · cases e
  have h1 := k.countEi h
  unfold step State.iterate at e
  dsimp only at e
  split at e
  · exact (run _ h1 e).imp_right .inl
  · have h2 := k.wake h1
    split at e
    · cases e
      refine .inr (.inr ⟨_, _, k.regs _ _ (k.cycle _ (k.push16 (k.cycle _ (k.cycle _ h2)) _)) ?_, rfl⟩)
      exact .of_eq rfl rfl rfl rfl
    · exact (run _ h2 e).imp_right .inl

end Sys2Proof.Machine
end

