-- ==== Sys2Proof/Laws/Invariants.lean ====
section
/-! SUPPORT. What holds of the devices inside a tick, where a store may already have landed and the
devices have not stepped yet, and that every action of a step keeps it. -/

namespace Sys2Proof.Machine

/-- The PPU inside a tick: the ranges, and the mode of its position or that of an LCD just turned on. -/
def Ppu.Mid (p : Ppu) : Prop :=
  p.ly.toNat < 154 ∧ p.dot < 456 ∧ p.dot % 4 = 0 ∧ 172 ≤ p.len3 ∧ p.len3 ≤ 369
  ∧ (p.mode = modeAt p.ly.toNat p.dot p.len3 ∨ (p.mode = .hblank ∧ p.ly = 0 ∧ p.dot = 0))

/-- OAM DMA inside a tick. -/
def OamDma.Mid (d : OamDma) : Prop := d.index ≤ 160 ∧ (d.state = .running → d.index < 160)

/-- HDMA inside a tick. -/
def Hdma.Mid (h : Hdma) (enhanced : Bool) : Prop :=
  0x8000 ≤ h.dst.toNat ∧ h.dst.toNat < 0xA000
  ∧ h.total ≤ 2048 ∧ h.total % 2 = 0 ∧ h.block ≤ 16 ∧ h.block % 2 = 0
  ∧ (h.state ≠ .stopped → 0 < h.total) ∧ (enhanced = false → h.state = .stopped)

/-- The devices inside a tick. -/
structure State.Mid (s : State) : Prop where
  mem   : s.mem.wf
  ppu   : s.ppu.Mid
  timer : s.timer.Ok
  dma   : s.dma.Mid
  hdma  : s.hdma.Mid s.params.enhanced

/-- The devices between two ticks. -/
structure State.DevicesOk (s : State) : Prop where
  mem   : s.mem.wf
  ppu   : s.ppu.Ok
  timer : s.timer.Ok
  dma   : s.dma.Ok
  hdma  : s.hdma.Ok s.params.enhanced

theorem Ppu.Ok.mid {p : Ppu} (h : p.Ok) : p.Mid := by
  obtain ⟨h1, h2, h3, h4, h5, h6, h7, -⟩ := h
  refine ⟨h1, h2, h3, h4, h5, ?_⟩
  by_cases g : p.lcdOn = true
  · exact .inl (h6 g)
  · exact .inr (h7 (by simpa using g))

theorem State.DevicesOk.mid {s : State} (h : s.DevicesOk) : s.Mid :=
  ⟨h.mem, h.ppu.mid, h.timer, ⟨h.dma.1, h.dma.2.1⟩,
    let ⟨a, b, c, d, e, f, g, _, i⟩ := h.hdma; ⟨a, b, c, d, e, f, g, i⟩⟩

theorem State.Mid.withCpu {s : State} (h : s.Mid) (r : Cpu) : (s.withCpu r).Mid :=
  ⟨h.mem, h.ppu, h.timer, h.dma, h.hdma⟩

theorem State.Mid.withIrq {s : State} (h : s.Mid) (q : Irq) : (s.withIrq q).Mid :=
  ⟨h.mem, h.ppu, h.timer, h.dma, h.hdma⟩

/-! ## A CPU write -/

theorem Timer.Ok.increment {t : Timer} (h : t.Ok) : t.increment.Ok := by
  obtain ⟨h1, h2, h3⟩ := h
  unfold Timer.increment
  split
  · exact ⟨h1, h2, h3⟩
  · have h0 : t.reloadDelay = 0 := by omega
    split
    · exact ⟨h1, .inr rfl, fun _ => rfl⟩
    · exact ⟨h1, .inl h0, fun h => by simp [h0] at h⟩

theorem Timer.Ok.divWrite {t : Timer} (h : t.Ok) : t.divWrite.Ok := by
  have key : ∀ u : Timer, u.Ok → Timer.Ok { u with counter := 0 } := fun u h => ⟨by simp, h.2.1, h.2.2⟩
  unfold Timer.divWrite
  dsimp only
  split
  · exact key _ h.increment
  · exact key _ h

theorem State.updateStatLine_ppu (s : State) :
    s.updateStatLine.ppu = { s.ppu with statLine := s.ppu.statLevel } := by
  unfold State.updateStatLine; dsimp only; split <;> rfl

theorem State.Mid.withPpu {s : State} (h : s.Mid) {p : Ppu} (hp : p.Mid) : (s.withPpu p).Mid :=
  ⟨h.mem, hp, h.timer, h.dma, h.hdma⟩

theorem State.Mid.updateStatLine {s : State} (h : s.Mid) : s.updateStatLine.Mid := by
  have hp := h.withPpu (p := { s.ppu with statLine := s.ppu.statLevel }) h.ppu
  unfold State.updateStatLine
  dsimp only
  split
  · exact hp.withIrq _
  · exact hp

theorem Hdma.Mid.withDst {d : Hdma} {e : Bool} (h : d.Mid e) {w : Word} (h1 : 0x8000 ≤ w.toNat)
    (h2 : w.toNat < 0xA000) : Hdma.Mid { d with dst := w } e :=
  ⟨h1, h2, h.2.2⟩

theorem State.Mid.withHdma {s : State} (h : s.Mid) {d : Hdma} (hd : d.Mid s.params.enhanced) :
    (s.withHdma d).Mid :=
  ⟨h.mem, h.ppu, h.timer, h.dma, hd⟩

theorem State.Mid.withTimer {s : State} (h : s.Mid) {u : Timer} (hu : u.Ok) : (s.withTimer u).Mid :=
  ⟨h.mem, h.ppu, hu, h.dma, h.hdma⟩

theorem State.Mid.withMem {s : State} (h : s.Mid) (k : Nat) (v : Byte) :
    (s.withMem (s.mem.write k v)).Mid :=
  ⟨Memory.write_wf h.mem k v, h.ppu, h.timer, h.dma, h.hdma⟩

theorem State.Mid.withDma {s : State} (h : s.Mid) {d : OamDma} (hd : d.Mid) : (s.withDma d).Mid :=
  ⟨h.mem, h.ppu, h.timer, hd, h.hdma⟩

/-- A register write keeps the devices in order; the HDMA registers are decoded only with `ENHANCED`. -/
theorem State.Mid.ioWrite {s : State} (h : s.Mid) (r : IoReg) (v : Byte)
    (he : r = .hdma5 → s.params.enhanced = true) : (s.ioWrite r v).Mid := by
  cases r <;> simp only [State.ioWrite]
  case div => exact h.withTimer h.timer.divWrite
  case tima =>
    split
    · exact h
    · rename_i hr
      exact h.withTimer ⟨h.timer.1, h.timer.2.1, fun e => absurd e (by simp only; omega)⟩
  case tma => exact h.withTimer h.timer
  case tac => exact h.withTimer h.timer
  case lcdc => exact State.Mid.updateStatLine (s := s.withPpu _) (h.withPpu h.ppu)
  case stat => exact State.Mid.updateStatLine (s := s.withPpu _) (h.withPpu h.ppu)
  case lyc => exact State.Mid.updateStatLine (s := s.withPpu _) (h.withPpu h.ppu)
  case dma => exact h.withDma ⟨h.dma.1, by simp [OamDma.start]⟩
  case bootOff => split; exacts [⟨h.mem, h.ppu, h.timer, h.dma, h.hdma⟩, h]
  case hdma1 => exact h.withHdma h.hdma
  case hdma2 => exact h.withHdma h.hdma
  case hdma3 =>
    have hv : 0x80 ≤ ((0x80 : Byte) ||| (v &&& 0x1F)).toNat ∧ ((0x80 : Byte) ||| (v &&& 0x1F)).toNat < 0xA0 := by
      clear he; revert v; decide
    have hl := (lowByte s.hdma.dst).isLt
    exact h.withHdma (h.hdma.withDst (by rw [joinBytes_toNat]; omega) (by rw [joinBytes_toNat]; omega))
  case hdma4 =>
    obtain ⟨h1, h2, -⟩ := h.hdma
    have hl := (v &&& 0xF0).isLt
    exact h.withHdma (h.hdma.withDst (by rw [joinBytes_toNat, highByte_toNat]; omega)
      (by rw [joinBytes_toNat, highByte_toNat]; omega))
  case hdma5 =>
    obtain ⟨h1, h2, -, -, h5, h6, -⟩ := h.hdma
    refine h.withHdma ⟨h1, h2, ?_, ?_, h5, h6, fun _ => ?_, fun e => ?_⟩
    · simp only [Hdma.start]; omega
    · simp only [Hdma.start]; omega
    · simp only [Hdma.start]; omega
    · rw [he rfl] at e; cases e
  all_goals exact ⟨h.mem, h.ppu, h.timer, h.dma, h.hdma⟩

/-- HDMA5 is decoded only with `ENHANCED` (R66). -/
theorem ioRegAt_hdma5 {e : Bool} {a : Word} (h : ioRegAt e a = some .hdma5) : e = true := by
  cases e
  · unfold ioRegAt at h
    split at h
    · cases h
    · split at h
      · rename_i x hx
        have h1 := List.find?_some hx
        have h2 := List.mem_of_find?_eq_some hx
        have h3 : ∀ y ∈ ioMap, y.2.1 = .hdma5 → y.2.2 = true := by decide
        have := h3 x h2 (by simpa using h)
        simp [this] at h1
      · cases h
  · rfl

theorem State.Mid.busWrite {s : State} (h : s.Mid) (a : Word) (v : Byte) : (s.busWrite a v).Mid := by
  unfold State.busWrite State.rawWrite
  split
  · exact h
  · split
    case h_7 =>
      split
      · rename_i r hr
        exact h.ioWrite r v fun e => ioRegAt_hdma5 (e ▸ hr)
      · exact h
    case h_1 => exact ⟨h.mem, h.ppu, h.timer, h.dma, h.hdma⟩
    case h_3 => exact ⟨h.mem, h.ppu, h.timer, h.dma, h.hdma⟩
    case h_6 => exact h
    case h_9 => exact h.withIrq _
    all_goals exact h.withMem _ _

/-! ## The rest of a tick -/

theorem State.Mid.dmaStep {s : State} (h : s.Mid) :
    s.dmaStep.Mid ∧ s.dmaStep.dma.state ≠ .requested := by
  obtain ⟨h1, h2⟩ := h.dma
  have copy : s.dmaCopyOne.mem.wf ∧ s.dmaCopyOne.ppu = s.ppu ∧ s.dmaCopyOne.timer = s.timer
      ∧ s.dmaCopyOne.hdma = s.hdma ∧ s.dmaCopyOne.params = s.params
      ∧ s.dmaCopyOne.dma.index ≤ 160 := by
    unfold State.dmaCopyOne
    split
    · rename_i hi
      exact ⟨Memory.write_wf h.mem _ _, rfl, rfl, rfl, rfl, hi⟩
    · exact ⟨h.mem, rfl, rfl, rfl, rfl, h1⟩
  obtain ⟨c1, c2, c3, c4, c5, c6⟩ := copy
  have mid : ∀ d : OamDma, d.Mid → (s.dmaCopyOne.withDma d).Mid := fun d hd =>
    ⟨c1, by simpa [c2] using h.ppu, by simpa [c3] using h.timer, hd,
      by simpa [c4, c5] using h.hdma⟩
  unfold State.dmaStep
  split
  · dsimp only
    split
    · exact ⟨mid _ ⟨c6, by simp⟩, by simp⟩
    · exact ⟨h.withDma ⟨h1, by simp⟩, by simp⟩
  · exact ⟨h.withDma ⟨by simp, by simp⟩, by simp⟩
  · dsimp only
    by_cases g : s.dmaCopyOne.dma.index = 160
    · simp only [g, if_true]
      exact ⟨mid _ ⟨by simp, by simp⟩, by simp⟩
    · simp only [g, if_false]
      exact ⟨mid _ ⟨c6, fun _ => by simp only; omega⟩, by simp⟩
  · rename_i hs
    exact ⟨h.withDma ⟨h1, by simp [hs]⟩, by simp [hs]⟩

theorem hdma_wrap (w : Word) : 0x8000 ≤ ((0x8000 : Word) ||| (w &&& 0x1FFF)).toNat
    ∧ ((0x8000 : Word) ||| (w &&& 0x1FFF)).toNat < 0xA000 := by
  have e : (w &&& 0x1FFF).toNat = w.toNat % 0x2000 := by
    rw [BitVec.toNat_and]; exact Nat.and_two_pow_sub_one_eq_mod _ 13
  have e2 : ((0x8000 : Word) ||| (w &&& 0x1FFF)).toNat = 0x8000 + w.toNat % 0x2000 := by
    rw [BitVec.toNat_or, e]
    have := Nat.two_pow_add_eq_or_of_lt (i := 15) (b := w.toNat % 0x2000) (by omega) 1
    simpa using this.symm
  omega

theorem State.Mid.hdmaCopyOne {s : State} (h : s.Mid) : s.hdmaCopyOne.Mid := by
  have w := hdma_wrap (s.hdma.dst + 1)
  exact ⟨Memory.write_wf h.mem _ _, h.ppu, h.timer, h.dma, w.1, w.2, h.hdma.2.2⟩

/-- Two bytes copied, and the engine's registers then updated. -/
theorem State.Mid.afterCopy {s : State} (h : s.Mid) (he : s.params.enhanced = true) (d : Hdma)
    (hdst : d.dst = s.hdmaCopyTwo.hdma.dst) (ht : d.total = s.hdma.total - 2)
    (hb : d.block ≤ 16 ∧ d.block % 2 = 0) (hp : d.state ≠ .stopped → 0 < d.total) :
    (s.hdmaCopyTwo.withHdma d).Mid := by
  have two := h.hdmaCopyOne.hdmaCopyOne
  obtain ⟨-, -, h3, h4, -⟩ := h.hdma
  have e : s.hdmaCopyTwo.hdma.dst = s.hdmaCopyOne.hdmaCopyOne.hdma.dst := rfl
  refine ⟨two.mem, two.ppu, two.timer, two.dma, ?_, ?_, ?_, ?_, hb.1, hb.2, hp, fun g => ?_⟩
  · rw [State.withHdma_hdma, hdst, e]; exact two.hdma.1
  · rw [State.withHdma_hdma, hdst, e]; exact two.hdma.2.1
  · rw [State.withHdma_hdma, ht]; omega
  · rw [State.withHdma_hdma, ht]; omega
  · rw [show (s.hdmaCopyTwo.withHdma d).params = s.params from rfl, he] at g; cases g

theorem State.Mid.hdmaGeneralStep {s : State} (h : s.Mid) (he : s.params.enhanced = true)
    (hs : s.hdma.state = .running) :
    s.hdmaGeneralStep.Mid ∧ s.hdmaGeneralStep.dma = s.dma
      ∧ s.hdmaGeneralStep.hdma.state ≠ .requested := by
  obtain ⟨-, -, -, h4, h5, h6, h7, -⟩ := h.hdma
  have pos := h7 (by simp [hs])
  have sts : s.hdmaCopyTwo.hdma.state = .running := hs
  unfold State.hdmaGeneralStep
  dsimp only
  split
  · exact ⟨h.afterCopy he _ rfl rfl ⟨h5, h6⟩ (by simp), rfl, by simp⟩
  · rename_i hz
    exact ⟨h.afterCopy he s.hdmaCopyTwo.hdma rfl rfl ⟨h5, h6⟩ fun _ => by omega, rfl, by simp [sts]⟩

theorem State.Mid.hdmaBlockStep {s : State} (h : s.Mid) (he : s.params.enhanced = true)
    (hs : s.hdma.state = .running) :
    s.hdmaBlockStep.Mid ∧ s.hdmaBlockStep.dma = s.dma ∧ s.hdmaBlockStep.hdma.state ≠ .requested := by
  obtain ⟨-, -, -, h4, h5, h6, h7, -⟩ := h.hdma
  have sts : s.hdmaCopyTwo.hdma.state = .running := hs
  have blk : s.hdmaCopyTwo.hdma.block = s.hdma.block := rfl
  have dm : s.hdmaCopyTwo.dma = s.dma := rfl
  have b : s.hdmaCopyTwo.hdma.block - 2 ≤ 16 ∧ (s.hdmaCopyTwo.hdma.block - 2) % 2 = 0 := by omega
  unfold State.hdmaBlockStep
  by_cases g : s.hdmaCopyTwo.hdma.total = 0
  · simp only [State.withHdma_hdma, State.withHdma_withHdma, g, if_true]
    exact ⟨h.afterCopy he _ rfl g.symm b (by simp), rfl, by simp⟩
  · by_cases g2 : s.hdmaCopyTwo.hdma.block - 2 = 0
    · simp only [State.withHdma_hdma, State.withHdma_withHdma, g, g2, if_true, if_false]
      exact ⟨h.afterCopy he _ rfl rfl (by simp) fun _ => by simp only; omega, rfl, by simp [sts]⟩
    · simp only [State.withHdma_hdma, g, g2, if_false]
      have pos : 0 < s.hdmaCopyTwo.hdma.total := by omega
      exact ⟨h.afterCopy he { s.hdmaCopyTwo.hdma with block := s.hdmaCopyTwo.hdma.block - 2 } rfl rfl b
        fun _ => pos, by rw [State.withHdma_dma]; exact dm, by rw [sts]; decide⟩

theorem State.Mid.hdmaHBlankStep {s : State} (h : s.Mid) (he : s.params.enhanced = true)
    (hs : s.hdma.state = .running) :
    s.hdmaHBlankStep.Mid ∧ s.hdmaHBlankStep.dma = s.dma
      ∧ s.hdmaHBlankStep.hdma.state ≠ .requested := by
  have arm : s.hdmaArm.Mid ∧ s.hdmaArm.dma = s.dma := by
    obtain ⟨h1, h2, h3, h4, -, -, h7, h8⟩ := h.hdma
    unfold State.hdmaArm
    split
    · exact ⟨h.withHdma ⟨h1, h2, h3, h4, by simp, by simp, h7, h8⟩, rfl⟩
    · exact ⟨h, rfl⟩
  have he' : s.hdmaArm.params.enhanced = true := by simpa using he
  have hs' : s.hdmaArm.hdma.state = .running := by simpa using hs
  unfold State.hdmaHBlankStep
  dsimp only
  split
  · have g := arm.1.hdmaBlockStep he' hs'
    exact ⟨g.1, g.2.1.trans arm.2, g.2.2⟩
  · split
    · exact ⟨arm.1, arm.2, by rw [hs']; decide⟩
    · exact ⟨arm.1.withHdma arm.1.hdma, arm.2, by rw [State.withHdma_hdma, hs']; decide⟩
  · exact ⟨arm.1, arm.2, by rw [hs']; decide⟩

theorem State.Mid.hdmaStep {s : State} (h : s.Mid) :
    s.hdmaStep.Mid ∧ s.hdmaStep.dma = s.dma ∧ s.hdmaStep.hdma.state ≠ .requested := by
  obtain ⟨h1, h2, h3, h4, h5, h6, h7, h8⟩ := h.hdma
  unfold State.hdmaStep
  split
  · rename_i he
    have he' : s.params.enhanced ≠ false := by simp [he]
    split
    · exact ⟨h.withHdma ⟨h1, h2, h3, h4, h5, h6, fun _ => h7 (by simp [*]), fun e => absurd e he'⟩,
        rfl, by simp⟩
    · exact ⟨h.withHdma ⟨h1, h2, h3, h4, h5, h6, fun _ => h7 (by simp [*]), fun e => absurd e he'⟩,
        rfl, by simp⟩
    · split
      · exact h.hdmaGeneralStep he ‹_›
      · exact h.hdmaHBlankStep he ‹_›
    · rename_i hs
      exact ⟨h, rfl, by simp [hs]⟩
  · rename_i he
    exact ⟨h, rfl, by rw [h8 (by simpa using he)]; simp⟩

/-! ### The PPU -/

theorem State.pixelTransferLength_range (s : State) :
    172 ≤ s.pixelTransferLength ∧ s.pixelTransferLength ≤ 369 := by
  have h1 : s.spritesOnLine ≤ 10 := Nat.min_le_left _ _
  have h2 : Config.spriteM3Cost.val * s.spritesOnLine ≤ 19 * 10 := Nat.mul_le_mul (by omega) h1
  unfold State.pixelTransferLength
  omega

theorem Ppu.Mid.advance {p : Ppu} (h : p.Mid) :
    p.advance.ly.toNat < 154 ∧ p.advance.dot < 456 ∧ p.advance.dot % 4 = 0
    ∧ p.advance.len3 = p.len3 ∧ p.advance.mode = p.mode
    ∧ (p.advance.dot = 0 ∨ (p.advance.ly = p.ly ∧ p.advance.dot = p.dot + 4)) := by
  obtain ⟨h1, h2, h3, -⟩ := h
  unfold Ppu.advance
  split
  · refine ⟨?_, by simp only; omega, by simp only; omega, rfl, rfl, .inl (by simp only; omega)⟩
    simp only [BitVec.toNat_ofNat]; omega
  · exact ⟨h1, by simp only; omega, by simp only; omega, rfl, rfl, .inr ⟨rfl, rfl⟩⟩

/-- A PPU step makes the PPU's invariant hold again. -/
theorem State.Mid.ppuStep {s : State} (h : s.Mid) : s.ppuStep.ppu.Ok := by
  unfold State.ppuStep
  dsimp only
  split
  · rename_i on
    obtain ⟨a1, a2, a3, a4, a5, a6⟩ := h.ppu.advance
    obtain ⟨-, -, m3, m4, m5, m6⟩ := h.ppu
    have aon : s.ppu.advance.lcdOn = true := by
      rw [← on]; unfold Ppu.advance Ppu.lcdOn; split <;> rfl
    have change : ∀ (u : State) m, (u.changeMode m).ppu = { u.ppu with mode := m } := by
      intro u m; unfold State.changeMode; split
      · rename_i g; rw [g]
      · cases m <;> rfl
    rw [State.updateStatLine_ppu, change]
    generalize hu : s.withPpu s.ppu.advance = u
    have up : u.ppu = s.ppu.advance := by rw [← hu]; rfl
    have range := u.pixelTransferLength_range
    have latch : u.latchLength.ppu
        = { u.ppu with len3 := if u.ppu.leavesOamScan then u.pixelTransferLength else u.ppu.len3 } := by
      unfold State.latchLength
      split <;> rfl
    rw [latch]
    generalize hl : (if u.ppu.leavesOamScan then u.pixelTransferLength else u.ppu.len3) = l
    have l1 : 172 ≤ l ∧ l ≤ 369 := by rw [← hl]; split <;> [exact range; (rw [up, a4]; exact ⟨m4, m5⟩)]
    refine ⟨by rw [up]; exact a1, by rw [up]; exact a2, by rw [up]; exact a3, l1.1, l1.2, fun _ => ?_,
      fun g => ?_, rfl⟩
    · show u.ppu.nextMode = modeAt u.ppu.ly.toNat u.ppu.dot l
      rw [up] at hl ⊢
      generalize s.ppu.advance = p at a1 a2 a3 a4 a5 a6 hl ⊢
      have scan : p.mode = .oamScan → p.dot < 84 := by
        intro g
        rcases a6 with a6 | ⟨e1, e2⟩
        · omega
        · rw [a5] at g
          rcases m6 with m6 | ⟨m6, -⟩
          · rw [g] at m6
            unfold modeAt at m6
            split at m6
            · cases m6
            · split at m6
              · omega
              · split at m6 <;> cases m6
          · rw [m6] at g; cases g
      unfold Ppu.nextMode modeAt
      by_cases c1 : 144 ≤ p.ly.toNat
      · simp [c1]
      · by_cases c2 : p.dot < 80
        · simp [c1, c2]
        · by_cases c3 : p.mode = .oamScan
          · have := scan c3
            have c4 : p.dot < 80 + l := by omega
            simp [c1, c2, c3, c4]
          · have : l = p.len3 := by rw [← hl]; simp [Ppu.leavesOamScan, c3]
            simp [c1, c2, c3, this]
    · exact absurd (show u.ppu.lcdOn = false from g) (by rw [up, aon]; decide)
  · rename_i off
    rw [State.updateStatLine_ppu]
    obtain ⟨m1, m2, m3, m4, m5, m6⟩ := h.ppu
    refine ⟨by simp [Ppu.off], by simp [Ppu.off], by simp [Ppu.off], m4, m5, fun g => absurd g off, fun _ => ⟨rfl, rfl, rfl⟩, rfl⟩

theorem Timer.Ok.reload {t : Timer} (h : t.Ok) : t.reload.Ok := by
  obtain ⟨h1, h2, -⟩ := h
  have z : t.reloadDelay - 4 = 0 := by omega
  exact ⟨h1, .inl z, fun e => by rw [show t.reload.reloadDelay = t.reloadDelay - 4 from rfl, z] at e; cases e⟩

theorem Timer.Ok.advance {t : Timer} (h : t.Ok) : t.advance.Ok := by
  have c : Timer.Ok { t with counter := t.counter + 4 } := by
    refine ⟨?_, h.2⟩
    have := h.1
    simp only [BitVec.toNat_add, BitVec.ofNat_eq_ofNat, BitVec.toNat_ofNat]
    omega
  unfold Timer.advance
  dsimp only
  split
  · exact c.increment
  · exact c

/-- The devices' part of a tick makes their invariant hold again. -/
theorem State.Mid.endTick {s : State} (h : s.Mid) : s.endTick.DevicesOk := by
  obtain ⟨h1, n1⟩ := h.dmaStep
  obtain ⟨h2, e2, n2⟩ := h1.hdmaStep
  rw [← e2] at n1
  have e3 : s.endTick.ppu = s.dmaStep.hdmaStep.ppuStep.ppu := by
    unfold State.endTick State.timerStep; dsimp only; split <;> rfl
  have e4 : s.endTick.timer = s.dmaStep.hdmaStep.timer.reload.advance := by
    have : s.dmaStep.hdmaStep.ppuStep.timer = s.dmaStep.hdmaStep.timer := by
      have stat : ∀ u : State, u.updateStatLine.timer = u.timer := by
        intro u; unfold State.updateStatLine; dsimp only; split <;> rfl
      have latch : ∀ u : State, u.latchLength.timer = u.timer := by
        intro u; unfold State.latchLength; split <;> rfl
      have change : ∀ (u : State) m, (u.changeMode m).timer = u.timer := by
        intro u m; unfold State.changeMode; split
        · rfl
        · cases m <;> rfl
      unfold State.ppuStep; dsimp only; split <;> simp [stat, latch, change]
    rw [← this]
    unfold State.endTick State.timerStep; dsimp only; split <;> rfl
  have e5 : s.endTick.dma = s.dmaStep.hdmaStep.dma := (State.endTick_dma s).trans e2.symm
  refine ⟨s.endTick_frame.wf h.mem, e3 ▸ h2.ppuStep, e4 ▸ h2.timer.reload.advance, ?_, ?_⟩
  · rw [e5]; exact ⟨h2.dma.1, h2.dma.2, n1⟩
  · have p : s.dmaStep.hdmaStep.params = s.params :=
      congrArg Settings.params (s.dmaStep_frame.trans (State.hdmaStep_frame _)).settings
    obtain ⟨g1, g2, g3, g4, g5, g6, g7, g8⟩ := h2.hdma
    rw [State.endTick_hdma, State.endTick_params]
    exact ⟨g1, g2, g3, g4, g5, g6, g7, n2, p ▸ g8⟩

/-! ## The scheduler -/

theorem State.Mid.applyInputs {s : State} (h : s.Mid) : s.applyInputs.Mid := by
  have key : ∀ (u : State) k b, u.Mid → (u.setKey k b).Mid := by
    intro u k b hu; unfold State.setKey; dsimp only
    split <;> exact ⟨hu.mem, hu.ppu, hu.timer, hu.dma, hu.hdma⟩
  have event : ∀ (u : State) e, u.Mid → (u.hostEvent e).Mid := by
    intro u e hu
    cases e <;> simp only [State.hostEvent]
    · split
      · exact (key _ _ _ hu).withIrq _
      · exact key _ _ _ hu
    · exact key _ _ _ hu
    · split
      · exact hu.withIrq _
      · exact hu
  have due : ∀ (l : List HostInput) (u : State), u.Mid → (State.applyDue l u).Mid := by
    intro l
    induction l with
    | nil => intro u hu; exact ⟨hu.mem, hu.ppu, hu.timer, hu.dma, hu.hdma⟩
    | cons x l ih =>
      intro u hu
      simp only [State.applyDue]
      split
      · exact ih _ (event _ _ hu)
      · exact ⟨hu.mem, hu.ppu, hu.timer, hu.dma, hu.hdma⟩
  exact due _ _ h

theorem State.Mid.startTick {s : State} (h : s.Mid) : s.startTick.Mid := by
  have thaw : ∀ (n : Nat) (u : State), u.Mid → (State.thaw n u).Mid := by
    intro n
    induction n with
    | zero => exact fun _ h => h
    | succ n ih =>
      intro u hu
      simp only [State.thaw]
      split
      · exact ih _ hu.endTick.mid.applyInputs
      · exact hu
  exact thaw _ _ h.applyInputs

/-- The devices' invariant inside a tick is kept by everything a step does. -/
theorem State.Mid.keeps : Keeps State.Mid :=
  ⟨fun _ r h _ => h.withCpu r, fun _ a v h => h.busWrite a v, fun _ h => h.endTick.mid.startTick⟩

end Sys2Proof.Machine
end

