-- ==== Sys2Proof/Laws/PerInstr.lean ====
section
/-! SUPPORT. Facts proved instruction by instruction. `EncodeLength`: the encoder writes as many bytes as
spec/opcode_table.json gives the row. -/

namespace Sys2Proof

/-- The encoder writes as many bytes as the table gives the row. -/
def Laws.EncodeLength.Statement (i : Instr) : Prop := (encode i).length = i.length

theorem Laws.EncodeLength.ldBCImm16 (nn : Word) : Laws.EncodeLength.Statement (.ldBCImm16 nn) := rfl
theorem Laws.EncodeLength.ldBImm (n : Byte) : Laws.EncodeLength.Statement (.ldBImm n) := rfl
theorem Laws.EncodeLength.ldAtNnSP (nn : Word) : Laws.EncodeLength.Statement (.ldAtNnSP nn) := rfl
theorem Laws.EncodeLength.ldCImm (n : Byte) : Laws.EncodeLength.Statement (.ldCImm n) := rfl
theorem Laws.EncodeLength.stop (n : Byte) : Laws.EncodeLength.Statement (.stop n) := rfl
theorem Laws.EncodeLength.ldDEImm16 (nn : Word) : Laws.EncodeLength.Statement (.ldDEImm16 nn) := rfl
theorem Laws.EncodeLength.ldDImm (n : Byte) : Laws.EncodeLength.Statement (.ldDImm n) := rfl
theorem Laws.EncodeLength.jrOff (e : Byte) : Laws.EncodeLength.Statement (.jrOff e) := rfl
theorem Laws.EncodeLength.ldEImm (n : Byte) : Laws.EncodeLength.Statement (.ldEImm n) := rfl
theorem Laws.EncodeLength.jrNZOff (e : Byte) : Laws.EncodeLength.Statement (.jrNZOff e) := rfl
theorem Laws.EncodeLength.ldHLImm16 (nn : Word) : Laws.EncodeLength.Statement (.ldHLImm16 nn) := rfl
theorem Laws.EncodeLength.ldHImm (n : Byte) : Laws.EncodeLength.Statement (.ldHImm n) := rfl
theorem Laws.EncodeLength.jrZOff (e : Byte) : Laws.EncodeLength.Statement (.jrZOff e) := rfl
theorem Laws.EncodeLength.ldLImm (n : Byte) : Laws.EncodeLength.Statement (.ldLImm n) := rfl
theorem Laws.EncodeLength.jrNCOff (e : Byte) : Laws.EncodeLength.Statement (.jrNCOff e) := rfl
theorem Laws.EncodeLength.ldSPImm16 (nn : Word) : Laws.EncodeLength.Statement (.ldSPImm16 nn) := rfl
theorem Laws.EncodeLength.ldAtHLImm (n : Byte) : Laws.EncodeLength.Statement (.ldAtHLImm n) := rfl
theorem Laws.EncodeLength.jrCOff (e : Byte) : Laws.EncodeLength.Statement (.jrCOff e) := rfl
theorem Laws.EncodeLength.ldAImm (n : Byte) : Laws.EncodeLength.Statement (.ldAImm n) := rfl
theorem Laws.EncodeLength.jpNZImm16 (nn : Word) : Laws.EncodeLength.Statement (.jpNZImm16 nn) := rfl
theorem Laws.EncodeLength.jpImm16 (nn : Word) : Laws.EncodeLength.Statement (.jpImm16 nn) := rfl
theorem Laws.EncodeLength.callNZImm16 (nn : Word) : Laws.EncodeLength.Statement (.callNZImm16 nn) := rfl
theorem Laws.EncodeLength.addAImm (n : Byte) : Laws.EncodeLength.Statement (.addAImm n) := rfl
theorem Laws.EncodeLength.jpZImm16 (nn : Word) : Laws.EncodeLength.Statement (.jpZImm16 nn) := rfl
theorem Laws.EncodeLength.callZImm16 (nn : Word) : Laws.EncodeLength.Statement (.callZImm16 nn) := rfl
theorem Laws.EncodeLength.callImm16 (nn : Word) : Laws.EncodeLength.Statement (.callImm16 nn) := rfl
theorem Laws.EncodeLength.adcAImm (n : Byte) : Laws.EncodeLength.Statement (.adcAImm n) := rfl
theorem Laws.EncodeLength.jpNCImm16 (nn : Word) : Laws.EncodeLength.Statement (.jpNCImm16 nn) := rfl
theorem Laws.EncodeLength.callNCImm16 (nn : Word) : Laws.EncodeLength.Statement (.callNCImm16 nn) := rfl
theorem Laws.EncodeLength.subAImm (n : Byte) : Laws.EncodeLength.Statement (.subAImm n) := rfl
theorem Laws.EncodeLength.jpCImm16 (nn : Word) : Laws.EncodeLength.Statement (.jpCImm16 nn) := rfl
theorem Laws.EncodeLength.callCImm16 (nn : Word) : Laws.EncodeLength.Statement (.callCImm16 nn) := rfl
theorem Laws.EncodeLength.sbcAImm (n : Byte) : Laws.EncodeLength.Statement (.sbcAImm n) := rfl
theorem Laws.EncodeLength.ldhAtNA (n : Byte) : Laws.EncodeLength.Statement (.ldhAtNA n) := rfl
theorem Laws.EncodeLength.andAImm (n : Byte) : Laws.EncodeLength.Statement (.andAImm n) := rfl
theorem Laws.EncodeLength.addSPOff (e : Byte) : Laws.EncodeLength.Statement (.addSPOff e) := rfl
theorem Laws.EncodeLength.ldAtNnA (nn : Word) : Laws.EncodeLength.Statement (.ldAtNnA nn) := rfl
theorem Laws.EncodeLength.xorAImm (n : Byte) : Laws.EncodeLength.Statement (.xorAImm n) := rfl
theorem Laws.EncodeLength.ldhAAtN (n : Byte) : Laws.EncodeLength.Statement (.ldhAAtN n) := rfl
theorem Laws.EncodeLength.orAImm (n : Byte) : Laws.EncodeLength.Statement (.orAImm n) := rfl
theorem Laws.EncodeLength.ldHLSPOff (e : Byte) : Laws.EncodeLength.Statement (.ldHLSPOff e) := rfl
theorem Laws.EncodeLength.ldAAtNn (nn : Word) : Laws.EncodeLength.Statement (.ldAAtNn nn) := rfl
theorem Laws.EncodeLength.cpAImm (n : Byte) : Laws.EncodeLength.Statement (.cpAImm n) := rfl
theorem Laws.EncodeLength.nop : Laws.EncodeLength.Statement .nop := rfl
theorem Laws.EncodeLength.ldAtBCA : Laws.EncodeLength.Statement .ldAtBCA := rfl
theorem Laws.EncodeLength.incBC : Laws.EncodeLength.Statement .incBC := rfl
theorem Laws.EncodeLength.incB : Laws.EncodeLength.Statement .incB := rfl
theorem Laws.EncodeLength.decB : Laws.EncodeLength.Statement .decB := rfl
theorem Laws.EncodeLength.rlca : Laws.EncodeLength.Statement .rlca := rfl
theorem Laws.EncodeLength.addHLBC : Laws.EncodeLength.Statement .addHLBC := rfl
theorem Laws.EncodeLength.ldAAtBC : Laws.EncodeLength.Statement .ldAAtBC := rfl
theorem Laws.EncodeLength.decBC : Laws.EncodeLength.Statement .decBC := rfl
theorem Laws.EncodeLength.incC : Laws.EncodeLength.Statement .incC := rfl
theorem Laws.EncodeLength.decC : Laws.EncodeLength.Statement .decC := rfl
theorem Laws.EncodeLength.rrca : Laws.EncodeLength.Statement .rrca := rfl
theorem Laws.EncodeLength.ldAtDEA : Laws.EncodeLength.Statement .ldAtDEA := rfl
theorem Laws.EncodeLength.incDE : Laws.EncodeLength.Statement .incDE := rfl
theorem Laws.EncodeLength.incD : Laws.EncodeLength.Statement .incD := rfl
theorem Laws.EncodeLength.decD : Laws.EncodeLength.Statement .decD := rfl
theorem Laws.EncodeLength.rla : Laws.EncodeLength.Statement .rla := rfl
theorem Laws.EncodeLength.addHLDE : Laws.EncodeLength.Statement .addHLDE := rfl
theorem Laws.EncodeLength.ldAAtDE : Laws.EncodeLength.Statement .ldAAtDE := rfl
theorem Laws.EncodeLength.decDE : Laws.EncodeLength.Statement .decDE := rfl
theorem Laws.EncodeLength.incE : Laws.EncodeLength.Statement .incE := rfl
theorem Laws.EncodeLength.decE : Laws.EncodeLength.Statement .decE := rfl
theorem Laws.EncodeLength.rra : Laws.EncodeLength.Statement .rra := rfl
theorem Laws.EncodeLength.ldAtHLIncA : Laws.EncodeLength.Statement .ldAtHLIncA := rfl
theorem Laws.EncodeLength.incHL : Laws.EncodeLength.Statement .incHL := rfl
theorem Laws.EncodeLength.incH : Laws.EncodeLength.Statement .incH := rfl
theorem Laws.EncodeLength.decH : Laws.EncodeLength.Statement .decH := rfl
theorem Laws.EncodeLength.daa : Laws.EncodeLength.Statement .daa := rfl
theorem Laws.EncodeLength.addHLHL : Laws.EncodeLength.Statement .addHLHL := rfl
theorem Laws.EncodeLength.ldAAtHLInc : Laws.EncodeLength.Statement .ldAAtHLInc := rfl
theorem Laws.EncodeLength.decHL : Laws.EncodeLength.Statement .decHL := rfl
theorem Laws.EncodeLength.incL : Laws.EncodeLength.Statement .incL := rfl
theorem Laws.EncodeLength.decL : Laws.EncodeLength.Statement .decL := rfl
theorem Laws.EncodeLength.cpl : Laws.EncodeLength.Statement .cpl := rfl
theorem Laws.EncodeLength.ldAtHLDecA : Laws.EncodeLength.Statement .ldAtHLDecA := rfl
theorem Laws.EncodeLength.incSP : Laws.EncodeLength.Statement .incSP := rfl
theorem Laws.EncodeLength.incAtHL : Laws.EncodeLength.Statement .incAtHL := rfl
theorem Laws.EncodeLength.decAtHL : Laws.EncodeLength.Statement .decAtHL := rfl
theorem Laws.EncodeLength.scf : Laws.EncodeLength.Statement .scf := rfl
theorem Laws.EncodeLength.addHLSP : Laws.EncodeLength.Statement .addHLSP := rfl
theorem Laws.EncodeLength.ldAAtHLDec : Laws.EncodeLength.Statement .ldAAtHLDec := rfl
theorem Laws.EncodeLength.decSP : Laws.EncodeLength.Statement .decSP := rfl
theorem Laws.EncodeLength.incA : Laws.EncodeLength.Statement .incA := rfl
theorem Laws.EncodeLength.decA : Laws.EncodeLength.Statement .decA := rfl
theorem Laws.EncodeLength.ccf : Laws.EncodeLength.Statement .ccf := rfl
theorem Laws.EncodeLength.ldBB : Laws.EncodeLength.Statement .ldBB := rfl
theorem Laws.EncodeLength.ldBC : Laws.EncodeLength.Statement .ldBC := rfl
theorem Laws.EncodeLength.ldBD : Laws.EncodeLength.Statement .ldBD := rfl
theorem Laws.EncodeLength.ldBE : Laws.EncodeLength.Statement .ldBE := rfl
theorem Laws.EncodeLength.ldBH : Laws.EncodeLength.Statement .ldBH := rfl
theorem Laws.EncodeLength.ldBL : Laws.EncodeLength.Statement .ldBL := rfl
theorem Laws.EncodeLength.ldBAtHL : Laws.EncodeLength.Statement .ldBAtHL := rfl
theorem Laws.EncodeLength.ldBA : Laws.EncodeLength.Statement .ldBA := rfl
theorem Laws.EncodeLength.ldCB : Laws.EncodeLength.Statement .ldCB := rfl
theorem Laws.EncodeLength.ldCC : Laws.EncodeLength.Statement .ldCC := rfl
theorem Laws.EncodeLength.ldCD : Laws.EncodeLength.Statement .ldCD := rfl
theorem Laws.EncodeLength.ldCE : Laws.EncodeLength.Statement .ldCE := rfl
theorem Laws.EncodeLength.ldCH : Laws.EncodeLength.Statement .ldCH := rfl
theorem Laws.EncodeLength.ldCL : Laws.EncodeLength.Statement .ldCL := rfl
theorem Laws.EncodeLength.ldCAtHL : Laws.EncodeLength.Statement .ldCAtHL := rfl
theorem Laws.EncodeLength.ldCA : Laws.EncodeLength.Statement .ldCA := rfl
theorem Laws.EncodeLength.ldDB : Laws.EncodeLength.Statement .ldDB := rfl
theorem Laws.EncodeLength.ldDC : Laws.EncodeLength.Statement .ldDC := rfl
theorem Laws.EncodeLength.ldDD : Laws.EncodeLength.Statement .ldDD := rfl
theorem Laws.EncodeLength.ldDE : Laws.EncodeLength.Statement .ldDE := rfl
theorem Laws.EncodeLength.ldDH : Laws.EncodeLength.Statement .ldDH := rfl
theorem Laws.EncodeLength.ldDL : Laws.EncodeLength.Statement .ldDL := rfl
theorem Laws.EncodeLength.ldDAtHL : Laws.EncodeLength.Statement .ldDAtHL := rfl
theorem Laws.EncodeLength.ldDA : Laws.EncodeLength.Statement .ldDA := rfl
theorem Laws.EncodeLength.ldEB : Laws.EncodeLength.Statement .ldEB := rfl
theorem Laws.EncodeLength.ldEC : Laws.EncodeLength.Statement .ldEC := rfl
theorem Laws.EncodeLength.ldED : Laws.EncodeLength.Statement .ldED := rfl
theorem Laws.EncodeLength.ldEE : Laws.EncodeLength.Statement .ldEE := rfl
theorem Laws.EncodeLength.ldEH : Laws.EncodeLength.Statement .ldEH := rfl
theorem Laws.EncodeLength.ldEL : Laws.EncodeLength.Statement .ldEL := rfl
theorem Laws.EncodeLength.ldEAtHL : Laws.EncodeLength.Statement .ldEAtHL := rfl
theorem Laws.EncodeLength.ldEA : Laws.EncodeLength.Statement .ldEA := rfl
theorem Laws.EncodeLength.ldHB : Laws.EncodeLength.Statement .ldHB := rfl
theorem Laws.EncodeLength.ldHC : Laws.EncodeLength.Statement .ldHC := rfl
theorem Laws.EncodeLength.ldHD : Laws.EncodeLength.Statement .ldHD := rfl
theorem Laws.EncodeLength.ldHE : Laws.EncodeLength.Statement .ldHE := rfl
theorem Laws.EncodeLength.ldHH : Laws.EncodeLength.Statement .ldHH := rfl
theorem Laws.EncodeLength.ldHL : Laws.EncodeLength.Statement .ldHL := rfl
theorem Laws.EncodeLength.ldHAtHL : Laws.EncodeLength.Statement .ldHAtHL := rfl
theorem Laws.EncodeLength.ldHA : Laws.EncodeLength.Statement .ldHA := rfl
theorem Laws.EncodeLength.ldLB : Laws.EncodeLength.Statement .ldLB := rfl
theorem Laws.EncodeLength.ldLC : Laws.EncodeLength.Statement .ldLC := rfl
theorem Laws.EncodeLength.ldLD : Laws.EncodeLength.Statement .ldLD := rfl
theorem Laws.EncodeLength.ldLE : Laws.EncodeLength.Statement .ldLE := rfl
theorem Laws.EncodeLength.ldLH : Laws.EncodeLength.Statement .ldLH := rfl
theorem Laws.EncodeLength.ldLL : Laws.EncodeLength.Statement .ldLL := rfl
theorem Laws.EncodeLength.ldLAtHL : Laws.EncodeLength.Statement .ldLAtHL := rfl
theorem Laws.EncodeLength.ldLA : Laws.EncodeLength.Statement .ldLA := rfl
theorem Laws.EncodeLength.ldAtHLB : Laws.EncodeLength.Statement .ldAtHLB := rfl
theorem Laws.EncodeLength.ldAtHLC : Laws.EncodeLength.Statement .ldAtHLC := rfl
theorem Laws.EncodeLength.ldAtHLD : Laws.EncodeLength.Statement .ldAtHLD := rfl
theorem Laws.EncodeLength.ldAtHLE : Laws.EncodeLength.Statement .ldAtHLE := rfl
theorem Laws.EncodeLength.ldAtHLH : Laws.EncodeLength.Statement .ldAtHLH := rfl
theorem Laws.EncodeLength.ldAtHLL : Laws.EncodeLength.Statement .ldAtHLL := rfl
theorem Laws.EncodeLength.halt : Laws.EncodeLength.Statement .halt := rfl
theorem Laws.EncodeLength.ldAtHLA : Laws.EncodeLength.Statement .ldAtHLA := rfl
theorem Laws.EncodeLength.ldAB : Laws.EncodeLength.Statement .ldAB := rfl
theorem Laws.EncodeLength.ldAC : Laws.EncodeLength.Statement .ldAC := rfl
theorem Laws.EncodeLength.ldAD : Laws.EncodeLength.Statement .ldAD := rfl
theorem Laws.EncodeLength.ldAE : Laws.EncodeLength.Statement .ldAE := rfl
theorem Laws.EncodeLength.ldAH : Laws.EncodeLength.Statement .ldAH := rfl
theorem Laws.EncodeLength.ldAL : Laws.EncodeLength.Statement .ldAL := rfl
theorem Laws.EncodeLength.ldAAtHL : Laws.EncodeLength.Statement .ldAAtHL := rfl
theorem Laws.EncodeLength.ldAA : Laws.EncodeLength.Statement .ldAA := rfl
theorem Laws.EncodeLength.addAB : Laws.EncodeLength.Statement .addAB := rfl
theorem Laws.EncodeLength.addAC : Laws.EncodeLength.Statement .addAC := rfl
theorem Laws.EncodeLength.addAD : Laws.EncodeLength.Statement .addAD := rfl
theorem Laws.EncodeLength.addAE : Laws.EncodeLength.Statement .addAE := rfl
theorem Laws.EncodeLength.addAH : Laws.EncodeLength.Statement .addAH := rfl
theorem Laws.EncodeLength.addAL : Laws.EncodeLength.Statement .addAL := rfl
theorem Laws.EncodeLength.addAAtHL : Laws.EncodeLength.Statement .addAAtHL := rfl
theorem Laws.EncodeLength.addAA : Laws.EncodeLength.Statement .addAA := rfl
theorem Laws.EncodeLength.adcAB : Laws.EncodeLength.Statement .adcAB := rfl
theorem Laws.EncodeLength.adcAC : Laws.EncodeLength.Statement .adcAC := rfl
theorem Laws.EncodeLength.adcAD : Laws.EncodeLength.Statement .adcAD := rfl
theorem Laws.EncodeLength.adcAE : Laws.EncodeLength.Statement .adcAE := rfl
theorem Laws.EncodeLength.adcAH : Laws.EncodeLength.Statement .adcAH := rfl
theorem Laws.EncodeLength.adcAL : Laws.EncodeLength.Statement .adcAL := rfl
theorem Laws.EncodeLength.adcAAtHL : Laws.EncodeLength.Statement .adcAAtHL := rfl
theorem Laws.EncodeLength.adcAA : Laws.EncodeLength.Statement .adcAA := rfl
theorem Laws.EncodeLength.subAB : Laws.EncodeLength.Statement .subAB := rfl
theorem Laws.EncodeLength.subAC : Laws.EncodeLength.Statement .subAC := rfl
theorem Laws.EncodeLength.subAD : Laws.EncodeLength.Statement .subAD := rfl
theorem Laws.EncodeLength.subAE : Laws.EncodeLength.Statement .subAE := rfl
theorem Laws.EncodeLength.subAH : Laws.EncodeLength.Statement .subAH := rfl
theorem Laws.EncodeLength.subAL : Laws.EncodeLength.Statement .subAL := rfl
theorem Laws.EncodeLength.subAAtHL : Laws.EncodeLength.Statement .subAAtHL := rfl
theorem Laws.EncodeLength.subAA : Laws.EncodeLength.Statement .subAA := rfl
theorem Laws.EncodeLength.sbcAB : Laws.EncodeLength.Statement .sbcAB := rfl
theorem Laws.EncodeLength.sbcAC : Laws.EncodeLength.Statement .sbcAC := rfl
theorem Laws.EncodeLength.sbcAD : Laws.EncodeLength.Statement .sbcAD := rfl
theorem Laws.EncodeLength.sbcAE : Laws.EncodeLength.Statement .sbcAE := rfl
theorem Laws.EncodeLength.sbcAH : Laws.EncodeLength.Statement .sbcAH := rfl
theorem Laws.EncodeLength.sbcAL : Laws.EncodeLength.Statement .sbcAL := rfl
theorem Laws.EncodeLength.sbcAAtHL : Laws.EncodeLength.Statement .sbcAAtHL := rfl
theorem Laws.EncodeLength.sbcAA : Laws.EncodeLength.Statement .sbcAA := rfl
theorem Laws.EncodeLength.andAB : Laws.EncodeLength.Statement .andAB := rfl
theorem Laws.EncodeLength.andAC : Laws.EncodeLength.Statement .andAC := rfl
theorem Laws.EncodeLength.andAD : Laws.EncodeLength.Statement .andAD := rfl
theorem Laws.EncodeLength.andAE : Laws.EncodeLength.Statement .andAE := rfl
theorem Laws.EncodeLength.andAH : Laws.EncodeLength.Statement .andAH := rfl
theorem Laws.EncodeLength.andAL : Laws.EncodeLength.Statement .andAL := rfl
theorem Laws.EncodeLength.andAAtHL : Laws.EncodeLength.Statement .andAAtHL := rfl
theorem Laws.EncodeLength.andAA : Laws.EncodeLength.Statement .andAA := rfl
theorem Laws.EncodeLength.xorAB : Laws.EncodeLength.Statement .xorAB := rfl
theorem Laws.EncodeLength.xorAC : Laws.EncodeLength.Statement .xorAC := rfl
theorem Laws.EncodeLength.xorAD : Laws.EncodeLength.Statement .xorAD := rfl
theorem Laws.EncodeLength.xorAE : Laws.EncodeLength.Statement .xorAE := rfl
theorem Laws.EncodeLength.xorAH : Laws.EncodeLength.Statement .xorAH := rfl
theorem Laws.EncodeLength.xorAL : Laws.EncodeLength.Statement .xorAL := rfl
theorem Laws.EncodeLength.xorAAtHL : Laws.EncodeLength.Statement .xorAAtHL := rfl
theorem Laws.EncodeLength.xorAA : Laws.EncodeLength.Statement .xorAA := rfl
theorem Laws.EncodeLength.orAB : Laws.EncodeLength.Statement .orAB := rfl
theorem Laws.EncodeLength.orAC : Laws.EncodeLength.Statement .orAC := rfl
theorem Laws.EncodeLength.orAD : Laws.EncodeLength.Statement .orAD := rfl
theorem Laws.EncodeLength.orAE : Laws.EncodeLength.Statement .orAE := rfl
theorem Laws.EncodeLength.orAH : Laws.EncodeLength.Statement .orAH := rfl
theorem Laws.EncodeLength.orAL : Laws.EncodeLength.Statement .orAL := rfl
theorem Laws.EncodeLength.orAAtHL : Laws.EncodeLength.Statement .orAAtHL := rfl
theorem Laws.EncodeLength.orAA : Laws.EncodeLength.Statement .orAA := rfl
theorem Laws.EncodeLength.cpAB : Laws.EncodeLength.Statement .cpAB := rfl
theorem Laws.EncodeLength.cpAC : Laws.EncodeLength.Statement .cpAC := rfl
theorem Laws.EncodeLength.cpAD : Laws.EncodeLength.Statement .cpAD := rfl
theorem Laws.EncodeLength.cpAE : Laws.EncodeLength.Statement .cpAE := rfl
theorem Laws.EncodeLength.cpAH : Laws.EncodeLength.Statement .cpAH := rfl
theorem Laws.EncodeLength.cpAL : Laws.EncodeLength.Statement .cpAL := rfl
theorem Laws.EncodeLength.cpAAtHL : Laws.EncodeLength.Statement .cpAAtHL := rfl
theorem Laws.EncodeLength.cpAA : Laws.EncodeLength.Statement .cpAA := rfl
theorem Laws.EncodeLength.retNZ : Laws.EncodeLength.Statement .retNZ := rfl
theorem Laws.EncodeLength.popBC : Laws.EncodeLength.Statement .popBC := rfl
theorem Laws.EncodeLength.pushBC : Laws.EncodeLength.Statement .pushBC := rfl
theorem Laws.EncodeLength.rst00H : Laws.EncodeLength.Statement .rst00H := rfl
theorem Laws.EncodeLength.retZ : Laws.EncodeLength.Statement .retZ := rfl
theorem Laws.EncodeLength.ret : Laws.EncodeLength.Statement .ret := rfl
theorem Laws.EncodeLength.prefixCB : Laws.EncodeLength.Statement .prefixCB := rfl
theorem Laws.EncodeLength.rst08H : Laws.EncodeLength.Statement .rst08H := rfl
theorem Laws.EncodeLength.retNC : Laws.EncodeLength.Statement .retNC := rfl
theorem Laws.EncodeLength.popDE : Laws.EncodeLength.Statement .popDE := rfl
theorem Laws.EncodeLength.undefinedD3 : Laws.EncodeLength.Statement .undefinedD3 := rfl
theorem Laws.EncodeLength.pushDE : Laws.EncodeLength.Statement .pushDE := rfl
theorem Laws.EncodeLength.rst10H : Laws.EncodeLength.Statement .rst10H := rfl
theorem Laws.EncodeLength.retC : Laws.EncodeLength.Statement .retC := rfl
theorem Laws.EncodeLength.reti : Laws.EncodeLength.Statement .reti := rfl
theorem Laws.EncodeLength.undefinedDB : Laws.EncodeLength.Statement .undefinedDB := rfl
theorem Laws.EncodeLength.undefinedDD : Laws.EncodeLength.Statement .undefinedDD := rfl
theorem Laws.EncodeLength.rst18H : Laws.EncodeLength.Statement .rst18H := rfl
theorem Laws.EncodeLength.popHL : Laws.EncodeLength.Statement .popHL := rfl
theorem Laws.EncodeLength.ldhAtCA : Laws.EncodeLength.Statement .ldhAtCA := rfl
theorem Laws.EncodeLength.undefinedE3 : Laws.EncodeLength.Statement .undefinedE3 := rfl
theorem Laws.EncodeLength.undefinedE4 : Laws.EncodeLength.Statement .undefinedE4 := rfl
theorem Laws.EncodeLength.pushHL : Laws.EncodeLength.Statement .pushHL := rfl
theorem Laws.EncodeLength.rst20H : Laws.EncodeLength.Statement .rst20H := rfl
theorem Laws.EncodeLength.jpHL : Laws.EncodeLength.Statement .jpHL := rfl
theorem Laws.EncodeLength.undefinedEB : Laws.EncodeLength.Statement .undefinedEB := rfl
theorem Laws.EncodeLength.undefinedEC : Laws.EncodeLength.Statement .undefinedEC := rfl
theorem Laws.EncodeLength.undefinedED : Laws.EncodeLength.Statement .undefinedED := rfl
theorem Laws.EncodeLength.rst28H : Laws.EncodeLength.Statement .rst28H := rfl
theorem Laws.EncodeLength.popAF : Laws.EncodeLength.Statement .popAF := rfl
theorem Laws.EncodeLength.ldhAAtC : Laws.EncodeLength.Statement .ldhAAtC := rfl
theorem Laws.EncodeLength.di : Laws.EncodeLength.Statement .di := rfl
theorem Laws.EncodeLength.undefinedF4 : Laws.EncodeLength.Statement .undefinedF4 := rfl
theorem Laws.EncodeLength.pushAF : Laws.EncodeLength.Statement .pushAF := rfl
theorem Laws.EncodeLength.rst30H : Laws.EncodeLength.Statement .rst30H := rfl
theorem Laws.EncodeLength.ldSPHL : Laws.EncodeLength.Statement .ldSPHL := rfl
theorem Laws.EncodeLength.ei : Laws.EncodeLength.Statement .ei := rfl
theorem Laws.EncodeLength.undefinedFC : Laws.EncodeLength.Statement .undefinedFC := rfl
theorem Laws.EncodeLength.undefinedFD : Laws.EncodeLength.Statement .undefinedFD := rfl
theorem Laws.EncodeLength.rst38H : Laws.EncodeLength.Statement .rst38H := rfl
theorem Laws.EncodeLength.rlcB : Laws.EncodeLength.Statement .rlcB := rfl
theorem Laws.EncodeLength.rlcC : Laws.EncodeLength.Statement .rlcC := rfl
theorem Laws.EncodeLength.rlcD : Laws.EncodeLength.Statement .rlcD := rfl
theorem Laws.EncodeLength.rlcE : Laws.EncodeLength.Statement .rlcE := rfl
theorem Laws.EncodeLength.rlcH : Laws.EncodeLength.Statement .rlcH := rfl
theorem Laws.EncodeLength.rlcL : Laws.EncodeLength.Statement .rlcL := rfl
theorem Laws.EncodeLength.rlcAtHL : Laws.EncodeLength.Statement .rlcAtHL := rfl
theorem Laws.EncodeLength.rlcA : Laws.EncodeLength.Statement .rlcA := rfl
theorem Laws.EncodeLength.rrcB : Laws.EncodeLength.Statement .rrcB := rfl
theorem Laws.EncodeLength.rrcC : Laws.EncodeLength.Statement .rrcC := rfl
theorem Laws.EncodeLength.rrcD : Laws.EncodeLength.Statement .rrcD := rfl
theorem Laws.EncodeLength.rrcE : Laws.EncodeLength.Statement .rrcE := rfl
theorem Laws.EncodeLength.rrcH : Laws.EncodeLength.Statement .rrcH := rfl
theorem Laws.EncodeLength.rrcL : Laws.EncodeLength.Statement .rrcL := rfl
theorem Laws.EncodeLength.rrcAtHL : Laws.EncodeLength.Statement .rrcAtHL := rfl
theorem Laws.EncodeLength.rrcA : Laws.EncodeLength.Statement .rrcA := rfl
theorem Laws.EncodeLength.rlB : Laws.EncodeLength.Statement .rlB := rfl
theorem Laws.EncodeLength.rlC : Laws.EncodeLength.Statement .rlC := rfl
theorem Laws.EncodeLength.rlD : Laws.EncodeLength.Statement .rlD := rfl
theorem Laws.EncodeLength.rlE : Laws.EncodeLength.Statement .rlE := rfl
theorem Laws.EncodeLength.rlH : Laws.EncodeLength.Statement .rlH := rfl
theorem Laws.EncodeLength.rlL : Laws.EncodeLength.Statement .rlL := rfl
theorem Laws.EncodeLength.rlAtHL : Laws.EncodeLength.Statement .rlAtHL := rfl
theorem Laws.EncodeLength.rlA : Laws.EncodeLength.Statement .rlA := rfl
theorem Laws.EncodeLength.rrB : Laws.EncodeLength.Statement .rrB := rfl
theorem Laws.EncodeLength.rrC : Laws.EncodeLength.Statement .rrC := rfl
theorem Laws.EncodeLength.rrD : Laws.EncodeLength.Statement .rrD := rfl
theorem Laws.EncodeLength.rrE : Laws.EncodeLength.Statement .rrE := rfl
theorem Laws.EncodeLength.rrH : Laws.EncodeLength.Statement .rrH := rfl
theorem Laws.EncodeLength.rrL : Laws.EncodeLength.Statement .rrL := rfl
theorem Laws.EncodeLength.rrAtHL : Laws.EncodeLength.Statement .rrAtHL := rfl
theorem Laws.EncodeLength.rrA : Laws.EncodeLength.Statement .rrA := rfl
theorem Laws.EncodeLength.slaB : Laws.EncodeLength.Statement .slaB := rfl
theorem Laws.EncodeLength.slaC : Laws.EncodeLength.Statement .slaC := rfl
theorem Laws.EncodeLength.slaD : Laws.EncodeLength.Statement .slaD := rfl
theorem Laws.EncodeLength.slaE : Laws.EncodeLength.Statement .slaE := rfl
theorem Laws.EncodeLength.slaH : Laws.EncodeLength.Statement .slaH := rfl
theorem Laws.EncodeLength.slaL : Laws.EncodeLength.Statement .slaL := rfl
theorem Laws.EncodeLength.slaAtHL : Laws.EncodeLength.Statement .slaAtHL := rfl
theorem Laws.EncodeLength.slaA : Laws.EncodeLength.Statement .slaA := rfl
theorem Laws.EncodeLength.sraB : Laws.EncodeLength.Statement .sraB := rfl
theorem Laws.EncodeLength.sraC : Laws.EncodeLength.Statement .sraC := rfl
theorem Laws.EncodeLength.sraD : Laws.EncodeLength.Statement .sraD := rfl
theorem Laws.EncodeLength.sraE : Laws.EncodeLength.Statement .sraE := rfl
theorem Laws.EncodeLength.sraH : Laws.EncodeLength.Statement .sraH := rfl
theorem Laws.EncodeLength.sraL : Laws.EncodeLength.Statement .sraL := rfl
theorem Laws.EncodeLength.sraAtHL : Laws.EncodeLength.Statement .sraAtHL := rfl
theorem Laws.EncodeLength.sraA : Laws.EncodeLength.Statement .sraA := rfl
theorem Laws.EncodeLength.swapB : Laws.EncodeLength.Statement .swapB := rfl
theorem Laws.EncodeLength.swapC : Laws.EncodeLength.Statement .swapC := rfl
theorem Laws.EncodeLength.swapD : Laws.EncodeLength.Statement .swapD := rfl
theorem Laws.EncodeLength.swapE : Laws.EncodeLength.Statement .swapE := rfl
theorem Laws.EncodeLength.swapH : Laws.EncodeLength.Statement .swapH := rfl
theorem Laws.EncodeLength.swapL : Laws.EncodeLength.Statement .swapL := rfl
theorem Laws.EncodeLength.swapAtHL : Laws.EncodeLength.Statement .swapAtHL := rfl
theorem Laws.EncodeLength.swapA : Laws.EncodeLength.Statement .swapA := rfl
theorem Laws.EncodeLength.srlB : Laws.EncodeLength.Statement .srlB := rfl
theorem Laws.EncodeLength.srlC : Laws.EncodeLength.Statement .srlC := rfl
theorem Laws.EncodeLength.srlD : Laws.EncodeLength.Statement .srlD := rfl
theorem Laws.EncodeLength.srlE : Laws.EncodeLength.Statement .srlE := rfl
theorem Laws.EncodeLength.srlH : Laws.EncodeLength.Statement .srlH := rfl
theorem Laws.EncodeLength.srlL : Laws.EncodeLength.Statement .srlL := rfl
theorem Laws.EncodeLength.srlAtHL : Laws.EncodeLength.Statement .srlAtHL := rfl
theorem Laws.EncodeLength.srlA : Laws.EncodeLength.Statement .srlA := rfl
theorem Laws.EncodeLength.bit0B : Laws.EncodeLength.Statement .bit0B := rfl
theorem Laws.EncodeLength.bit0C : Laws.EncodeLength.Statement .bit0C := rfl
theorem Laws.EncodeLength.bit0D : Laws.EncodeLength.Statement .bit0D := rfl
theorem Laws.EncodeLength.bit0E : Laws.EncodeLength.Statement .bit0E := rfl
theorem Laws.EncodeLength.bit0H : Laws.EncodeLength.Statement .bit0H := rfl
theorem Laws.EncodeLength.bit0L : Laws.EncodeLength.Statement .bit0L := rfl
theorem Laws.EncodeLength.bit0AtHL : Laws.EncodeLength.Statement .bit0AtHL := rfl
theorem Laws.EncodeLength.bit0A : Laws.EncodeLength.Statement .bit0A := rfl
theorem Laws.EncodeLength.bit1B : Laws.EncodeLength.Statement .bit1B := rfl
theorem Laws.EncodeLength.bit1C : Laws.EncodeLength.Statement .bit1C := rfl
theorem Laws.EncodeLength.bit1D : Laws.EncodeLength.Statement .bit1D := rfl
theorem Laws.EncodeLength.bit1E : Laws.EncodeLength.Statement .bit1E := rfl
theorem Laws.EncodeLength.bit1H : Laws.EncodeLength.Statement .bit1H := rfl
theorem Laws.EncodeLength.bit1L : Laws.EncodeLength.Statement .bit1L := rfl
theorem Laws.EncodeLength.bit1AtHL : Laws.EncodeLength.Statement .bit1AtHL := rfl
theorem Laws.EncodeLength.bit1A : Laws.EncodeLength.Statement .bit1A := rfl
theorem Laws.EncodeLength.bit2B : Laws.EncodeLength.Statement .bit2B := rfl
theorem Laws.EncodeLength.bit2C : Laws.EncodeLength.Statement .bit2C := rfl
theorem Laws.EncodeLength.bit2D : Laws.EncodeLength.Statement .bit2D := rfl
theorem Laws.EncodeLength.bit2E : Laws.EncodeLength.Statement .bit2E := rfl
theorem Laws.EncodeLength.bit2H : Laws.EncodeLength.Statement .bit2H := rfl
theorem Laws.EncodeLength.bit2L : Laws.EncodeLength.Statement .bit2L := rfl
theorem Laws.EncodeLength.bit2AtHL : Laws.EncodeLength.Statement .bit2AtHL := rfl
theorem Laws.EncodeLength.bit2A : Laws.EncodeLength.Statement .bit2A := rfl
theorem Laws.EncodeLength.bit3B : Laws.EncodeLength.Statement .bit3B := rfl
theorem Laws.EncodeLength.bit3C : Laws.EncodeLength.Statement .bit3C := rfl
theorem Laws.EncodeLength.bit3D : Laws.EncodeLength.Statement .bit3D := rfl
theorem Laws.EncodeLength.bit3E : Laws.EncodeLength.Statement .bit3E := rfl
theorem Laws.EncodeLength.bit3H : Laws.EncodeLength.Statement .bit3H := rfl
theorem Laws.EncodeLength.bit3L : Laws.EncodeLength.Statement .bit3L := rfl
theorem Laws.EncodeLength.bit3AtHL : Laws.EncodeLength.Statement .bit3AtHL := rfl
theorem Laws.EncodeLength.bit3A : Laws.EncodeLength.Statement .bit3A := rfl
theorem Laws.EncodeLength.bit4B : Laws.EncodeLength.Statement .bit4B := rfl
theorem Laws.EncodeLength.bit4C : Laws.EncodeLength.Statement .bit4C := rfl
theorem Laws.EncodeLength.bit4D : Laws.EncodeLength.Statement .bit4D := rfl
theorem Laws.EncodeLength.bit4E : Laws.EncodeLength.Statement .bit4E := rfl
theorem Laws.EncodeLength.bit4H : Laws.EncodeLength.Statement .bit4H := rfl
theorem Laws.EncodeLength.bit4L : Laws.EncodeLength.Statement .bit4L := rfl
theorem Laws.EncodeLength.bit4AtHL : Laws.EncodeLength.Statement .bit4AtHL := rfl
theorem Laws.EncodeLength.bit4A : Laws.EncodeLength.Statement .bit4A := rfl
theorem Laws.EncodeLength.bit5B : Laws.EncodeLength.Statement .bit5B := rfl
theorem Laws.EncodeLength.bit5C : Laws.EncodeLength.Statement .bit5C := rfl
theorem Laws.EncodeLength.bit5D : Laws.EncodeLength.Statement .bit5D := rfl
theorem Laws.EncodeLength.bit5E : Laws.EncodeLength.Statement .bit5E := rfl
theorem Laws.EncodeLength.bit5H : Laws.EncodeLength.Statement .bit5H := rfl
theorem Laws.EncodeLength.bit5L : Laws.EncodeLength.Statement .bit5L := rfl
theorem Laws.EncodeLength.bit5AtHL : Laws.EncodeLength.Statement .bit5AtHL := rfl
theorem Laws.EncodeLength.bit5A : Laws.EncodeLength.Statement .bit5A := rfl
theorem Laws.EncodeLength.bit6B : Laws.EncodeLength.Statement .bit6B := rfl
theorem Laws.EncodeLength.bit6C : Laws.EncodeLength.Statement .bit6C := rfl
theorem Laws.EncodeLength.bit6D : Laws.EncodeLength.Statement .bit6D := rfl
theorem Laws.EncodeLength.bit6E : Laws.EncodeLength.Statement .bit6E := rfl
theorem Laws.EncodeLength.bit6H : Laws.EncodeLength.Statement .bit6H := rfl
theorem Laws.EncodeLength.bit6L : Laws.EncodeLength.Statement .bit6L := rfl
theorem Laws.EncodeLength.bit6AtHL : Laws.EncodeLength.Statement .bit6AtHL := rfl
theorem Laws.EncodeLength.bit6A : Laws.EncodeLength.Statement .bit6A := rfl
theorem Laws.EncodeLength.bit7B : Laws.EncodeLength.Statement .bit7B := rfl
theorem Laws.EncodeLength.bit7C : Laws.EncodeLength.Statement .bit7C := rfl
theorem Laws.EncodeLength.bit7D : Laws.EncodeLength.Statement .bit7D := rfl
theorem Laws.EncodeLength.bit7E : Laws.EncodeLength.Statement .bit7E := rfl
theorem Laws.EncodeLength.bit7H : Laws.EncodeLength.Statement .bit7H := rfl
theorem Laws.EncodeLength.bit7L : Laws.EncodeLength.Statement .bit7L := rfl
theorem Laws.EncodeLength.bit7AtHL : Laws.EncodeLength.Statement .bit7AtHL := rfl
theorem Laws.EncodeLength.bit7A : Laws.EncodeLength.Statement .bit7A := rfl
theorem Laws.EncodeLength.res0B : Laws.EncodeLength.Statement .res0B := rfl
theorem Laws.EncodeLength.res0C : Laws.EncodeLength.Statement .res0C := rfl
theorem Laws.EncodeLength.res0D : Laws.EncodeLength.Statement .res0D := rfl
theorem Laws.EncodeLength.res0E : Laws.EncodeLength.Statement .res0E := rfl
theorem Laws.EncodeLength.res0H : Laws.EncodeLength.Statement .res0H := rfl
theorem Laws.EncodeLength.res0L : Laws.EncodeLength.Statement .res0L := rfl
theorem Laws.EncodeLength.res0AtHL : Laws.EncodeLength.Statement .res0AtHL := rfl
theorem Laws.EncodeLength.res0A : Laws.EncodeLength.Statement .res0A := rfl
theorem Laws.EncodeLength.res1B : Laws.EncodeLength.Statement .res1B := rfl
theorem Laws.EncodeLength.res1C : Laws.EncodeLength.Statement .res1C := rfl
theorem Laws.EncodeLength.res1D : Laws.EncodeLength.Statement .res1D := rfl
theorem Laws.EncodeLength.res1E : Laws.EncodeLength.Statement .res1E := rfl
theorem Laws.EncodeLength.res1H : Laws.EncodeLength.Statement .res1H := rfl
theorem Laws.EncodeLength.res1L : Laws.EncodeLength.Statement .res1L := rfl
theorem Laws.EncodeLength.res1AtHL : Laws.EncodeLength.Statement .res1AtHL := rfl
theorem Laws.EncodeLength.res1A : Laws.EncodeLength.Statement .res1A := rfl
theorem Laws.EncodeLength.res2B : Laws.EncodeLength.Statement .res2B := rfl
theorem Laws.EncodeLength.res2C : Laws.EncodeLength.Statement .res2C := rfl
theorem Laws.EncodeLength.res2D : Laws.EncodeLength.Statement .res2D := rfl
theorem Laws.EncodeLength.res2E : Laws.EncodeLength.Statement .res2E := rfl
theorem Laws.EncodeLength.res2H : Laws.EncodeLength.Statement .res2H := rfl
theorem Laws.EncodeLength.res2L : Laws.EncodeLength.Statement .res2L := rfl
theorem Laws.EncodeLength.res2AtHL : Laws.EncodeLength.Statement .res2AtHL := rfl
theorem Laws.EncodeLength.res2A : Laws.EncodeLength.Statement .res2A := rfl
theorem Laws.EncodeLength.res3B : Laws.EncodeLength.Statement .res3B := rfl
theorem Laws.EncodeLength.res3C : Laws.EncodeLength.Statement .res3C := rfl
theorem Laws.EncodeLength.res3D : Laws.EncodeLength.Statement .res3D := rfl
theorem Laws.EncodeLength.res3E : Laws.EncodeLength.Statement .res3E := rfl
theorem Laws.EncodeLength.res3H : Laws.EncodeLength.Statement .res3H := rfl
theorem Laws.EncodeLength.res3L : Laws.EncodeLength.Statement .res3L := rfl
theorem Laws.EncodeLength.res3AtHL : Laws.EncodeLength.Statement .res3AtHL := rfl
theorem Laws.EncodeLength.res3A : Laws.EncodeLength.Statement .res3A := rfl
theorem Laws.EncodeLength.res4B : Laws.EncodeLength.Statement .res4B := rfl
theorem Laws.EncodeLength.res4C : Laws.EncodeLength.Statement .res4C := rfl
theorem Laws.EncodeLength.res4D : Laws.EncodeLength.Statement .res4D := rfl
theorem Laws.EncodeLength.res4E : Laws.EncodeLength.Statement .res4E := rfl
theorem Laws.EncodeLength.res4H : Laws.EncodeLength.Statement .res4H := rfl
theorem Laws.EncodeLength.res4L : Laws.EncodeLength.Statement .res4L := rfl
theorem Laws.EncodeLength.res4AtHL : Laws.EncodeLength.Statement .res4AtHL := rfl
theorem Laws.EncodeLength.res4A : Laws.EncodeLength.Statement .res4A := rfl
theorem Laws.EncodeLength.res5B : Laws.EncodeLength.Statement .res5B := rfl
theorem Laws.EncodeLength.res5C : Laws.EncodeLength.Statement .res5C := rfl
theorem Laws.EncodeLength.res5D : Laws.EncodeLength.Statement .res5D := rfl
theorem Laws.EncodeLength.res5E : Laws.EncodeLength.Statement .res5E := rfl
theorem Laws.EncodeLength.res5H : Laws.EncodeLength.Statement .res5H := rfl
theorem Laws.EncodeLength.res5L : Laws.EncodeLength.Statement .res5L := rfl
theorem Laws.EncodeLength.res5AtHL : Laws.EncodeLength.Statement .res5AtHL := rfl
theorem Laws.EncodeLength.res5A : Laws.EncodeLength.Statement .res5A := rfl
theorem Laws.EncodeLength.res6B : Laws.EncodeLength.Statement .res6B := rfl
theorem Laws.EncodeLength.res6C : Laws.EncodeLength.Statement .res6C := rfl
theorem Laws.EncodeLength.res6D : Laws.EncodeLength.Statement .res6D := rfl
theorem Laws.EncodeLength.res6E : Laws.EncodeLength.Statement .res6E := rfl
theorem Laws.EncodeLength.res6H : Laws.EncodeLength.Statement .res6H := rfl
theorem Laws.EncodeLength.res6L : Laws.EncodeLength.Statement .res6L := rfl
theorem Laws.EncodeLength.res6AtHL : Laws.EncodeLength.Statement .res6AtHL := rfl
theorem Laws.EncodeLength.res6A : Laws.EncodeLength.Statement .res6A := rfl
theorem Laws.EncodeLength.res7B : Laws.EncodeLength.Statement .res7B := rfl
theorem Laws.EncodeLength.res7C : Laws.EncodeLength.Statement .res7C := rfl
theorem Laws.EncodeLength.res7D : Laws.EncodeLength.Statement .res7D := rfl
theorem Laws.EncodeLength.res7E : Laws.EncodeLength.Statement .res7E := rfl
theorem Laws.EncodeLength.res7H : Laws.EncodeLength.Statement .res7H := rfl
theorem Laws.EncodeLength.res7L : Laws.EncodeLength.Statement .res7L := rfl
theorem Laws.EncodeLength.res7AtHL : Laws.EncodeLength.Statement .res7AtHL := rfl
theorem Laws.EncodeLength.res7A : Laws.EncodeLength.Statement .res7A := rfl
theorem Laws.EncodeLength.set0B : Laws.EncodeLength.Statement .set0B := rfl
theorem Laws.EncodeLength.set0C : Laws.EncodeLength.Statement .set0C := rfl
theorem Laws.EncodeLength.set0D : Laws.EncodeLength.Statement .set0D := rfl
theorem Laws.EncodeLength.set0E : Laws.EncodeLength.Statement .set0E := rfl
theorem Laws.EncodeLength.set0H : Laws.EncodeLength.Statement .set0H := rfl
theorem Laws.EncodeLength.set0L : Laws.EncodeLength.Statement .set0L := rfl
theorem Laws.EncodeLength.set0AtHL : Laws.EncodeLength.Statement .set0AtHL := rfl
theorem Laws.EncodeLength.set0A : Laws.EncodeLength.Statement .set0A := rfl
theorem Laws.EncodeLength.set1B : Laws.EncodeLength.Statement .set1B := rfl
theorem Laws.EncodeLength.set1C : Laws.EncodeLength.Statement .set1C := rfl
theorem Laws.EncodeLength.set1D : Laws.EncodeLength.Statement .set1D := rfl
theorem Laws.EncodeLength.set1E : Laws.EncodeLength.Statement .set1E := rfl
theorem Laws.EncodeLength.set1H : Laws.EncodeLength.Statement .set1H := rfl
theorem Laws.EncodeLength.set1L : Laws.EncodeLength.Statement .set1L := rfl
theorem Laws.EncodeLength.set1AtHL : Laws.EncodeLength.Statement .set1AtHL := rfl
theorem Laws.EncodeLength.set1A : Laws.EncodeLength.Statement .set1A := rfl
theorem Laws.EncodeLength.set2B : Laws.EncodeLength.Statement .set2B := rfl
theorem Laws.EncodeLength.set2C : Laws.EncodeLength.Statement .set2C := rfl
theorem Laws.EncodeLength.set2D : Laws.EncodeLength.Statement .set2D := rfl
theorem Laws.EncodeLength.set2E : Laws.EncodeLength.Statement .set2E := rfl
theorem Laws.EncodeLength.set2H : Laws.EncodeLength.Statement .set2H := rfl
theorem Laws.EncodeLength.set2L : Laws.EncodeLength.Statement .set2L := rfl
theorem Laws.EncodeLength.set2AtHL : Laws.EncodeLength.Statement .set2AtHL := rfl
theorem Laws.EncodeLength.set2A : Laws.EncodeLength.Statement .set2A := rfl
theorem Laws.EncodeLength.set3B : Laws.EncodeLength.Statement .set3B := rfl
theorem Laws.EncodeLength.set3C : Laws.EncodeLength.Statement .set3C := rfl
theorem Laws.EncodeLength.set3D : Laws.EncodeLength.Statement .set3D := rfl
theorem Laws.EncodeLength.set3E : Laws.EncodeLength.Statement .set3E := rfl
theorem Laws.EncodeLength.set3H : Laws.EncodeLength.Statement .set3H := rfl
theorem Laws.EncodeLength.set3L : Laws.EncodeLength.Statement .set3L := rfl
theorem Laws.EncodeLength.set3AtHL : Laws.EncodeLength.Statement .set3AtHL := rfl
theorem Laws.EncodeLength.set3A : Laws.EncodeLength.Statement .set3A := rfl
theorem Laws.EncodeLength.set4B : Laws.EncodeLength.Statement .set4B := rfl
theorem Laws.EncodeLength.set4C : Laws.EncodeLength.Statement .set4C := rfl
theorem Laws.EncodeLength.set4D : Laws.EncodeLength.Statement .set4D := rfl
theorem Laws.EncodeLength.set4E : Laws.EncodeLength.Statement .set4E := rfl
theorem Laws.EncodeLength.set4H : Laws.EncodeLength.Statement .set4H := rfl
theorem Laws.EncodeLength.set4L : Laws.EncodeLength.Statement .set4L := rfl
theorem Laws.EncodeLength.set4AtHL : Laws.EncodeLength.Statement .set4AtHL := rfl
theorem Laws.EncodeLength.set4A : Laws.EncodeLength.Statement .set4A := rfl
theorem Laws.EncodeLength.set5B : Laws.EncodeLength.Statement .set5B := rfl
theorem Laws.EncodeLength.set5C : Laws.EncodeLength.Statement .set5C := rfl
theorem Laws.EncodeLength.set5D : Laws.EncodeLength.Statement .set5D := rfl
theorem Laws.EncodeLength.set5E : Laws.EncodeLength.Statement .set5E := rfl
theorem Laws.EncodeLength.set5H : Laws.EncodeLength.Statement .set5H := rfl
theorem Laws.EncodeLength.set5L : Laws.EncodeLength.Statement .set5L := rfl
theorem Laws.EncodeLength.set5AtHL : Laws.EncodeLength.Statement .set5AtHL := rfl
theorem Laws.EncodeLength.set5A : Laws.EncodeLength.Statement .set5A := rfl
theorem Laws.EncodeLength.set6B : Laws.EncodeLength.Statement .set6B := rfl
theorem Laws.EncodeLength.set6C : Laws.EncodeLength.Statement .set6C := rfl
theorem Laws.EncodeLength.set6D : Laws.EncodeLength.Statement .set6D := rfl
theorem Laws.EncodeLength.set6E : Laws.EncodeLength.Statement .set6E := rfl
theorem Laws.EncodeLength.set6H : Laws.EncodeLength.Statement .set6H := rfl
theorem Laws.EncodeLength.set6L : Laws.EncodeLength.Statement .set6L := rfl
theorem Laws.EncodeLength.set6AtHL : Laws.EncodeLength.Statement .set6AtHL := rfl
theorem Laws.EncodeLength.set6A : Laws.EncodeLength.Statement .set6A := rfl
theorem Laws.EncodeLength.set7B : Laws.EncodeLength.Statement .set7B := rfl
theorem Laws.EncodeLength.set7C : Laws.EncodeLength.Statement .set7C := rfl
theorem Laws.EncodeLength.set7D : Laws.EncodeLength.Statement .set7D := rfl
theorem Laws.EncodeLength.set7E : Laws.EncodeLength.Statement .set7E := rfl
theorem Laws.EncodeLength.set7H : Laws.EncodeLength.Statement .set7H := rfl
theorem Laws.EncodeLength.set7L : Laws.EncodeLength.Statement .set7L := rfl
theorem Laws.EncodeLength.set7AtHL : Laws.EncodeLength.Statement .set7AtHL := rfl
theorem Laws.EncodeLength.set7A : Laws.EncodeLength.Statement .set7A := rfl

end Sys2Proof
end

