-- ==== Sys2Proof/Laws/Tickwise.lean ====
section
/-! SUPPORT. Tick by tick: frozen ticks pass, the fetches follow one another, and from the bytes of an
instruction its M-cycles end where its meaning ends. -/

namespace Sys2Proof.Machine

/-! ## Frozen ticks -/

/-- A frozen tick leaves fewer bytes to copy, and none left means stopped (R346). -/
theorem State.endTick_halts {s : State} (h : s.hdmaHaltsCpu = true) :
    s.endTick.hdma.total = s.hdma.total - 2
    ∧ (s.hdma.total ≤ 2 → s.endTick.hdmaHaltsCpu = false) := by
  simp only [State.hdmaHaltsCpu, Bool.and_eq_true, beq_iff_eq] at h
  obtain ⟨⟨h1, h2⟩, h3⟩ := h
  have e : s.endTick.hdma = s.dmaStep.hdmaGeneralStep.hdma := by
    rw [State.endTick_hdma]
    simp [State.hdmaStep, h1, h2, h3]
  have two : s.dmaStep.hdmaCopyTwo.hdma.total = s.hdma.total - 2 := by
    rw [← s.dmaStep_hdma]; rfl
  unfold State.hdmaGeneralStep at e
  dsimp only at e
  rw [two] at e
  split at e <;> rename_i hz
  · exact ⟨congrArg Hdma.total e, fun _ => by simp [State.hdmaHaltsCpu, e]⟩
  · exact ⟨by rw [e, two], fun _ => by omega⟩

/-- The host's events neither freeze the CPU nor release it. -/
theorem State.applyInputs_halts (s : State) : s.applyInputs.hdmaHaltsCpu = s.hdmaHaltsCpu := by
  have hp : s.applyInputs.params = s.params := congrArg Settings.params s.applyInputs_frame.settings
  simp [State.hdmaHaltsCpu, hp, s.applyInputs_transfers.2]

/-- As many ticks as half the bytes left are enough to thaw the CPU (R350). -/
theorem State.thaw_awake (n : Nat) (s : State) (h : s.hdma.total / 2 < n ∨ s.hdmaHaltsCpu = false) :
    (State.thaw n s).hdmaHaltsCpu = false := by
  induction n generalizing s with
  | zero => exact h.elim (fun h => absurd h (Nat.not_lt_zero _)) id
  | succ n ih =>
    simp only [State.thaw]
    split
    · rename_i hs
      refine ih _ ?_
      rw [State.applyInputs_halts, s.endTick.applyInputs_transfers.2]
      have g := State.endTick_halts hs
      by_cases ht : s.hdma.total ≤ 2
      · exact .inr (g.2 ht)
      · refine .inl ?_
        rw [g.1]
        have := h.resolve_right (by simp [hs])
        omega
    · rename_i hs
      simpa using hs

/-- Where the CPU acts, nothing freezes it. -/
theorem State.startTick_awake (s : State) : s.startTick.hdmaHaltsCpu = false := by
  refine State.thaw_awake _ _ (.inl ?_)
  rw [s.applyInputs_transfers.2]
  omega

/-! ## From one tick to the run of them -/

/-- The CPU's part of a tick answered `v`, and what follows answers `r`. -/
def Ends (r : Result) : TickResult → Prop
  | .next v =>
    if v.flight = .boundary then r = .next v.state.endTick else TicksTo ⟨v.state.endTick, v.flight⟩ r
  | .fault f => r = .fault f
  | .refused _ => False

/-- The run of the ticks goes by what the CPU does in the tick it acts in. -/
theorem TicksTo.of_start {s : State} {fl : Flight} {r : Result} (h : Ends r (s.startTick.cpuPart fl)) :
    TicksTo ⟨s, fl⟩ r := by
  have key : ∀ (n : Nat) (s : State), (State.thaw n s.applyInputs).hdmaHaltsCpu = false →
      Ends r ((State.thaw n s.applyInputs).cpuPart fl) → TicksTo ⟨s, fl⟩ r := by
    have run : ∀ s : State, s.applyInputs.hdmaHaltsCpu = false → Ends r (s.applyInputs.cpuPart fl) →
        TicksTo ⟨s, fl⟩ r := by
      intro s hs h
      have hh : s.hdmaHaltsCpu = false := s.applyInputs_halts ▸ hs
      cases hc : s.applyInputs.cpuPart fl with
      | next v =>
        have e : tick ⟨s, fl⟩ = .next ⟨v.state.endTick, v.flight⟩ := by simp [tick, hs, hc]
        rw [hc] at h
        by_cases hb : v.flight = .boundary
        · have hr : r = .next v.state.endTick := by simpa [Ends, hb] using h
          rw [hr]
          exact .last hh e hb
        · exact .more hh e hb (by simpa [Ends, hb] using h)
      | fault f =>
        rw [hc] at h
        cases h
        exact .stops (by simp [tick, hs, hc])
      | refused x =>
        rw [hc] at h
        exact h.elim
    intro n
    induction n with
    | zero => exact run
    | succ n ih =>
      intro s
      simp only [State.thaw]
      split
      · rename_i hs
        intro hw h
        refine .frozen (v := ⟨s.applyInputs.endTick, fl⟩) (s.applyInputs_halts ▸ hs) ?_ (ih _ hw h)
        simp [tick, hs]
      · exact run s
  exact key _ _ s.startTick_awake h

/-! ## The M-cycles after the fetches -/

/-- From the M-cycle of `s`, with the M-cycles `work` to come, the instruction or dispatch ends in the M-cycle
of `t`. -/
inductive Works : State → List MCycle → State → Prop where
  | done (s : State) : Works s [] s
  | cycle {s t : State} {m : MCycle} {work : List MCycle} :
      Works (s.nextCycle.perform m).1 ((s.nextCycle.perform m).2 ++ work) t → Works s (m :: work) t

/-- M-cycles run one a tick. -/
theorem Works.ends {s t : State} {work : List MCycle} (h : Works s work t) :
    Ends (finish t) (.next ⟨s, .after work⟩) := by
  induction h with
  | done s => simp [Ends, Flight.after, finish]
  | @cycle s t m work _ ih => exact TicksTo.of_start ih

/-- From the bytes of `i`, its M-cycles end where its meaning ends. -/
def Starts (i : Instr) (s : State) : Prop :=
  ∃ t, Works (s.start (encode i)).1 (s.start (encode i)).2 t ∧ exec i s = finish t

theorem Starts.of {i : Instr} {s s1 t : State} {work : List MCycle} (h : s.start (encode i) = (s1, work))
    (w : Works s1 work t) (e : exec i s = finish t) : Starts i s := ⟨t, by rw [h]; exact w, e⟩

/-- A form that ends in the M-cycle of its last byte. -/
theorem Starts.at_once {i : Instr} {s t : State} (h : s.start (encode i) = (t, []))
    (e : exec i s = finish t) : Starts i s := .of h (.done t) e

/-- A form that ends in the M-cycle `m` after its last byte. -/
theorem Starts.one {i : Instr} {s : State} (m : MCycle) (h : s.start (encode i) = (s, [m]))
    (n : (s.nextCycle.perform m).2 = []) (e : exec i s = finish (s.nextCycle.perform m).1) : Starts i s :=
  .of h (.cycle (by rw [n]; exact .done _)) e

theorem State.start_two (s : State) (op n : Byte) :
    s.start [op, n] = s.startFields op n (joinBytes 0 n) := rfl

theorem State.start_three (s : State) (op : Byte) (nn : Word) :
    s.start [op, lowByte nn, highByte nn] = s.startFields op (lowByte nn) nn := by
  show s.startFields op (lowByte nn) (joinBytes (highByte nn) (lowByte nn)) = _
  rw [joinBytes_high_low]

/-- A read-modify-write. -/
theorem Works.modify (s : State) (m : Modify) :
    ∃ t, Works s [.modify m] t ∧ modifyMem m.apply s.nextCycle = finish t :=
  ⟨_, .cycle (.cycle (.done _)), by simp [modifyMem, State.perform]⟩

theorem Starts.modify {i : Instr} {s : State} (m : Modify) (h : s.start (encode i) = (s, [.modify m]))
    (e : exec i s = modifyMem m.apply s.nextCycle) : Starts i s := by
  obtain ⟨t, w, g⟩ := Works.modify s m
  exact .of h w (e.trans g)

/-- An idle M-cycle and a push. -/
theorem Works.push (s : State) (w : Word) :
    Works s (pushWork w none) (s.nextCycle.nextCycle.push16 w) := .cycle (.cycle (.cycle (.done _)))

/-- An idle M-cycle, a push and the jump in its second half. -/
theorem Works.call (s : State) (w target : Word) :
    Works s (pushWork w (some target)) ((s.nextCycle.nextCycle.push16 w).jump target) :=
  .cycle (.cycle (.cycle (.done _)))

/-- The pop of PC and the M-cycle that loads it. -/
theorem Works.popPC (s : State) (enable : Bool) :
    Works s [.popLow (.return enable)]
      (s.nextCycle.popPC.withCpu { s.nextCycle.popPC.cpu with ime := s.cpu.ime || enable }) := by
  refine .cycle (.cycle (.cycle ?_))
  have e : (s.nextCycle.popPC.withCpu { s.nextCycle.popPC.cpu with ime := s.cpu.ime || enable })
      = s.nextCycle.nextCycle.nextCycle.withCpu { s.cpu with
        pc := joinBytes (s.nextCycle.nextCycle.busRead (s.cpu.sp + 1)) (s.nextCycle.busRead s.cpu.sp)
        sp := s.cpu.sp + 2, ime := s.cpu.ime || enable } := by
    simp [State.popPC_eq]
  rw [e]
  have c : s.cpu.sp + 1#16 + 1#16 = s.cpu.sp + 2#16 := by
    rw [BitVec.add_assoc]; rfl
  simp [State.perform, State.popByte, c]
  exact .done _

/-- The five M-cycles of a dispatch (R314), the first of them the M-cycle of `s`. -/
theorem Works.dispatch (s : State) (i : Fin 5) :
    Works s (pushWork s.cpu.pc none ++ [.enter i]) (s.takeInterrupt i) := by
  have e : s.takeInterrupt i = ((((s.nextCycle.perform .idle).1.nextCycle.perform
      (.pushHigh (highByte s.cpu.pc))).1.nextCycle.perform
      (.pushLow (lowByte s.cpu.pc) none)).1.nextCycle.perform (.enter i)).1 := by
    simp [State.takeInterrupt, State.perform, State.push16]
  rw [e]
  exact .cycle (.cycle (.cycle (.cycle (.done _))))

/-- Every instruction but the lone prefix byte and the unassigned opcodes does in its M-cycles what its
meaning says. -/
theorem starts (i : Instr) (s : State) (hp : i ≠ .prefixCB) (hu : unassignedOpcode i = none) :
    Starts i s := by
  revert hp hu
  have same : ∀ p w, s.nextCycle.setPair p w = (s.nextCycle.perform (.setPair p w s.cpu.flags)).1 := by
    intro p w
    cases p <;> simp [State.perform, State.setPair, State.setFlags, Cpu.setPair, Cpu.setHL]
  induction i using Instr.byForm
  all_goals intro hp hu
  case ldReg dst src => exact .at_once (by cases dst <;> cases src <;> rfl) (exec_ldReg dst src s)
  case ldRegImm r n => exact .at_once (by cases r <;> exact (s.start_two _ _).trans rfl) (exec_ldRegImm r n s)
  case ldRegMem r => exact .one (.load r s.cpu.hl) (by cases r <;> rfl) rfl (exec_ldRegMem r s)
  case ldMemReg r =>
    exact .one (.store s.cpu.hl (s.cpu.reg r)) (by cases r <;> rfl) rfl (exec_ldMemReg r s)
  case ldPair p nn => exact .at_once (by cases p <;> exact (s.start_three _ _).trans rfl) (exec_ldPair p nn s)
  case push p => exact .of (by cases p <;> rfl) (.push s (s.cpu.stackPair p)) (exec_push p s)
  case pop p =>
    exact .of (work := [.popLow (.pair p)]) (by cases p <;> rfl) (.cycle (.cycle (.done _))) (exec_pop p s)
  case aluReg o r => exact .at_once (by cases o <;> cases r <;> rfl) (exec_aluReg o r s)
  case aluMem o =>
    exact .one (.alu o) (by cases o <;> rfl) rfl (by rw [exec_aluMem]; simp [aluWithMem, State.perform])
  case aluImm o n => exact .at_once (by cases o <;> exact (s.start_two _ _).trans rfl) (exec_aluImm o n s)
  case incReg r => exact .at_once (by cases r <;> rfl) (exec_incReg r s)
  case decReg r => exact .at_once (by cases r <;> rfl) (exec_decReg r s)
  case addHLPair p =>
    exact .one (.setPair .hl (addHL s.cpu.hl (s.cpu.pair p) s.cpu.flags).1
      (addHL s.cpu.hl (s.cpu.pair p) s.cpu.flags).2) (by cases p <;> rfl) rfl (exec_addHLPair p s)
  case incPair p =>
    exact .one (.setPair p (s.cpu.pair p + 1) s.cpu.flags) (by cases p <;> rfl) rfl
      ((exec_incPair p s).trans (congrArg finish (same _ _)))
  case decPair p =>
    exact .one (.setPair p (s.cpu.pair p + -1) s.cpu.flags) (by cases p <;> rfl) rfl
      ((exec_decPair p s).trans (congrArg finish (same _ _)))
  case rotReg o r => exact .at_once (by cases o <;> cases r <;> rfl) (exec_rotReg o r s)
  case rotMem o => exact .modify (.rotate o) (by cases o <;> rfl) (exec_rotMem o s)
  case bitReg b r => exact .at_once (by cases b <;> cases r <;> rfl) (exec_bitReg b r s)
  case bitMem b =>
    exact .one (.testBit b) (by cases b <;> rfl) rfl (by rw [exec_bitMem]; simp [testBitMem, State.perform])
  case resReg b r =>
    exact .at_once (t := s.modifyReg (.reset b) r) (by cases b <;> cases r <;> rfl)
      ((exec_resReg b r s).trans (by cases r <;> rfl))
  case resMem b => exact .modify (.reset b) (by cases b <;> rfl) (exec_resMem b s)
  case setReg b r =>
    exact .at_once (t := s.modifyReg (.set b) r) (by cases b <;> cases r <;> rfl)
      ((exec_setReg b r s).trans (by cases r <;> rfl))
  case setMem b => exact .modify (.set b) (by cases b <;> rfl) (exec_setMem b s)
  case jpCond cc nn =>
    have h : s.start (encode (.jpCond cc nn)) = (s, if s.cpu.flags.cond cc then [.jump nn] else []) := by
      cases cc <;> exact (s.start_three _ _).trans rfl
    have e := exec_jpCond cc nn s
    unfold jumpIf at e
    split at h <;> rename_i hc
    · rw [if_pos hc] at e; exact .of h (.cycle (.done _)) e
    · rw [if_neg hc] at e; exact .at_once h e
  case jrCond cc n =>
    have h : s.start (encode (.jrCond cc n)) = if s.cpu.flags.cond cc then
        (s, [.jump (s.cpu.pc + n.signExtend 16)]) else (s, []) := by
      cases cc <;> exact (s.start_two _ _).trans rfl
    have e := exec_jrCond cc n s
    unfold jumpRelativeIf at e
    split at h <;> rename_i hc
    · rw [if_pos hc] at e; exact .of h (.cycle (.done _)) e
    · rw [if_neg hc] at e; exact .at_once h e
  case callCond cc nn =>
    have h : s.start (encode (.callCond cc nn))
        = (s, if s.cpu.flags.cond cc then pushWork s.cpu.pc (some nn) else []) := by
      cases cc <;> exact (s.start_three _ _).trans rfl
    have e := exec_callCond cc nn s
    unfold callIf at e
    split at h <;> rename_i hc
    · rw [if_pos hc] at e; exact .of h (.call _ _ _) e
    · rw [if_neg hc] at e; exact .at_once h e
  case retCond cc =>
    have h : s.start (encode (.retCond cc))
        = (s, if s.cpu.flags.cond cc then [.idle, .popLow (.return false)] else [.idle]) := by
      cases cc <;> rfl
    have e := exec_retCond cc s
    unfold returnIf at e
    dsimp only at e
    split at h <;> rename_i hc
    · rw [if_pos hc] at e
      exact .of h (.cycle (.popPC s.nextCycle false)) (e.trans (by simp [State.popPC_eq]))
    · rw [if_neg hc] at e; exact .of h (.cycle (.done _)) e
  case rst r => exact .of (by cases r <;> rfl) (.call s s.cpu.pc (rstAddress r)) (exec_rst r s)
  case ldAtHLImm n => exact .one (.store s.cpu.hl n) ((s.start_two _ _).trans rfl) rfl rfl
  case ldAAtBC => exact .one (.load .a s.cpu.bc) rfl rfl rfl
  case ldAAtDE => exact .one (.load .a s.cpu.de) rfl rfl rfl
  case ldAtBCA => exact .one (.store s.cpu.bc s.cpu.a) rfl rfl rfl
  case ldAtDEA => exact .one (.store s.cpu.de s.cpu.a) rfl rfl rfl
  case ldAAtNn nn => exact .one (.load .a nn) ((s.start_three _ _).trans rfl) rfl rfl
  case ldAtNnA nn => exact .one (.store nn s.cpu.a) ((s.start_three _ _).trans rfl) rfl rfl
  case ldhAAtC => exact .one (.load .a (highPage s.cpu.c)) rfl rfl rfl
  case ldhAtCA => exact .one (.store (highPage s.cpu.c) s.cpu.a) rfl rfl rfl
  case ldhAAtN n => exact .one (.load .a (highPage n)) ((s.start_two _ _).trans rfl) rfl rfl
  case ldhAtNA n => exact .one (.store (highPage n) s.cpu.a) ((s.start_two _ _).trans rfl) rfl rfl
  case ldAAtHLDec =>
    exact .one (.loadStepping (-1)) rfl rfl (by rw [exec_ldAAtHLDec]; simp [loadStepping, State.perform])
  case ldAtHLDecA =>
    exact .one (.storeStepping (-1)) rfl rfl (by rw [exec_ldAtHLDecA]; simp [storeStepping, State.perform])
  case ldAAtHLInc =>
    exact .one (.loadStepping 1) rfl rfl (by rw [exec_ldAAtHLInc]; simp [loadStepping, State.perform])
  case ldAtHLIncA =>
    exact .one (.storeStepping 1) rfl rfl (by rw [exec_ldAtHLIncA]; simp [storeStepping, State.perform])
  case ldAtNnSP nn =>
    exact .of (work := [.store nn (lowByte s.cpu.sp), .store (nn + 1) (highByte s.cpu.sp)])
      ((s.start_three _ _).trans rfl) (.cycle (.cycle (.done _))) rfl
  case ldSPHL =>
    exact .one (.setPair .sp s.cpu.hl s.cpu.flags) rfl rfl
      ((exec_ldSPHL s).trans (congrArg finish (same _ _)))
  case ldHLSPOff n =>
    exact .one (.setPair .hl (addSPOffset s.cpu.sp n).1 (addSPOffset s.cpu.sp n).2)
      ((s.start_two _ _).trans rfl) rfl rfl
  case addSPOff n =>
    exact .of (work := [.idle, .setPair .sp (addSPOffset s.cpu.sp n).1 (addSPOffset s.cpu.sp n).2])
      ((s.start_two _ _).trans rfl) (.cycle (.cycle (.done _))) rfl
  case incAtHL => exact .modify .inc rfl rfl
  case decAtHL => exact .modify .dec rfl rfl
  case daa => exact .at_once rfl rfl
  case cpl => exact .at_once rfl rfl
  case scf => exact .at_once rfl rfl
  case ccf => exact .at_once rfl rfl
  case rlca => exact .at_once rfl rfl
  case rrca => exact .at_once rfl rfl
  case rla => exact .at_once rfl rfl
  case rra => exact .at_once rfl rfl
  case jpImm16 nn => exact .one (.jump nn) ((s.start_three _ _).trans rfl) rfl rfl
  case jpHL => exact .at_once rfl rfl
  case jrOff n => exact .one (.jump (s.cpu.pc + n.signExtend 16)) ((s.start_two _ _).trans rfl) rfl rfl
  case callImm16 nn => exact .of ((s.start_three _ _).trans rfl) (.call s s.cpu.pc nn) rfl
  case ret => exact .of rfl (.popPC s false) (by rw [exec_ret]; simp [State.popPC_eq])
  case reti =>
    exact .of rfl (.popPC s true) (by rw [exec_reti]; simp [State.returnFromInterrupt, State.popPC_eq])
  case nop => exact .at_once rfl rfl
  case halt => exact .at_once rfl rfl
  case stop n => exact .at_once ((s.start_two _ _).trans rfl) rfl
  case di => exact .at_once rfl rfl
  case ei => exact .at_once rfl rfl
  case prefixCB => exact absurd rfl hp
  case unassigned i hi => exact absurd (mem_unassigned.1 hi) (by simp [hu])

/-! ## Fetching -/

/-- As many operand bytes are fetched as asked for. -/
theorem State.fetchOperands_length (n : Nat) (s : State) : (s.fetchOperands n).1.length = n := by
  induction n generalizing s with
  | zero => rfl
  | succ n ih => simp [State.fetchOperands, ih]

/-- With `n` bytes missing, the fetches go on to the last of them. -/
theorem Ends.fetch {r : Result} (n : Nat) (s : State) (bytes : List Byte)
    (hn : bytes.length + n = operandCount (bytes.getD 0 0) + 1) (hb : bytes ≠ [])
    (h : Ends r ((s.fetchOperands n).2.afterFetch (bytes ++ (s.fetchOperands n).1))) :
    Ends r (s.afterFetch bytes) := by
  induction n generalizing s bytes with
  | zero => simpa [State.fetchOperands] using h
  | succ n ih =>
    have hl : bytes.length ≤ operandCount (bytes.getD 0 0) := by omega
    have e : s.afterFetch bytes = .next ⟨s, .fetching bytes⟩ := by
      unfold State.afterFetch
      dsimp only
      rw [if_pos hl]
    rw [e]
    refine TicksTo.of_start (ih s.nextCycle.fetch8.2 (bytes ++ [s.nextCycle.fetch8.1]) ?_ (by simp) ?_)
    · cases bytes with
      | nil => exact absurd rfl hb
      | cons b bs => simp at hn ⊢; omega
    · simpa [State.fetchOperands] using h

end Sys2Proof.Machine
end

