-- ==== Sys2Proof/Tests/Slice0.lean ====
section
/-! SUPPORT. Tests of one decode or one step, their expected values from spec/95_test_vectors.md (section 2,
named by rule) or worked out from the rule named; and for every statement with hypotheses a state and operands
that meet them. -/

namespace Sys2Proof.Tests

open Sys2Proof.Machine

/-! ## Small states -/

/-- Bytes at rising addresses, as a memory. -/
def cells : List Byte → Nat → Memory
  | [], _ => []
  | v :: vs, k => if v = 0 then cells vs (k + 1) else (k, v) :: cells vs (k + 1)

/-- The start state of spec/95's conventions: `code` in ROM at PC (0x0100 unless `f`
moves it), LCD off, F = 0, `data` in RAM. -/
def start (code : List Byte) (data : Memory) (f : Cpu → Cpu) : State :=
  let s := State.reset
  let r : Cpu := { s.cpu with flags := ⟨false, false, false, false⟩ }
  ((s.withPpu { s.ppu with lcdc := 0, mode := .hblank }).withCpu (f r)).withMem
    (cells code (f r).pc.toNat ++ data)

/-- As `start`, of a construction with the parameters `p`. -/
def startOf (p : Params) (code : List Byte) (data : Memory) (f : Cpu → Cpu) : State :=
  { start code data f with params := p }

/-- What `g` reads in the next state of a step. -/
def after {α : Type} (s : State) (g : State → α) : Option α :=
  match step s with
  | .next t => some (g t)
  | .fault _ => none
  | .refused _ => none

/-- What `g` reads of the opcode and the frozen state of a decode fault. -/
def faulted {α : Type} (r : Result) (g : Byte → State → α) : Option α :=
  match r with
  | .fault (.fatalDecode op u) => some (g op u)
  | .next _ => none
  | .refused _ => none

/-- What `g` reads after `n` ticks from an instruction boundary. -/
def ticked {α : Type} (n : Nat) (s : State) (g : TickState → α) : Option α :=
  go n ⟨s, .boundary⟩
where
  go : Nat → TickState → Option α
    | 0, u => some (g u)
    | n + 1, u => match tick u with
      | .next v => go n v
      | .fault _ => none
      | .refused _ => none

def enhanced : Params := { Params.default with enhanced := true }
def faulting : Params := { Params.default with undefinedPolicy := .fault }

/-! ## Well-formedness -/

theorem test_prefix_alone_is_ill_formed : Instr.prefixCB.wf = false := by decide
theorem test_every_other_row_is_well_formed :
    Instr.nop.wf = true ∧ (Instr.undefinedD3).wf = true ∧ (Instr.jpImm16 0xFFFF).wf = true := by decide
theorem test_short_boot_image_is_ill_formed :
    Params.wf { Params.default with bootImage := some [0x31, 0xFE, 0xFF] } = false := by decide
theorem test_base_boot_image_is_short_for_enhanced :
    Params.wf { enhanced with bootImage := some (List.replicate 0x100 0) } = false := by
  simp only [Params.wf, enhanced, List.length_replicate]; rfl
theorem test_base_boot_image_is_well_formed :
    Params.wf { Params.default with bootImage := some (List.replicate 0x100 0) } = true := by
  simp only [Params.wf, List.length_replicate]; rfl

theorem test_reset_memory_is_canonical : State.reset.mem.wf := Memory.nil_wf

/-! ## Decoding: words written out bit by bit from R121 to R129 -/

theorem test_decode_load_register : decode [0b01_010_110] = .ok (.ldDAtHL, []) := rfl
theorem test_decode_load_immediate : decode [0b00_101_110, 0x9A] = .ok (.ldLImm 0x9A, []) := rfl
theorem test_decode_store_absolute : decode [0b11_101_010, 0x00, 0xC1] = .ok (.ldAtNnA 0xC100, []) := rfl
theorem test_decode_step_hl : decode [0b00_11_1_010] = .ok (.ldAAtHLDec, []) := rfl
theorem test_decode_push : decode [0b11_00_0_101, 0x77] = .ok (.pushBC, [0x77]) := rfl
theorem test_decode_sp_offset : decode [0b11_111_000, 0xFF] = .ok (.ldHLSPOff 0xFF, []) := rfl
theorem test_decode_alu_register : decode [0b10_001_011] = .ok (.adcAE, []) := rfl
theorem test_decode_alu_immediate : decode [0b11_010_110, 0x0F] = .ok (.subAImm 0x0F, []) := rfl
theorem test_decode_dec_at_hl : decode [0b00_110_101] = .ok (.decAtHL, []) := rfl
theorem test_decode_add_hl : decode [0b00_10_1_001] = .ok (.addHLHL, []) := rfl
theorem test_decode_rotate : decode [0xCB, 0b00_011_110] = .ok (.rrAtHL, []) := rfl
theorem test_decode_bit : decode [0xCB, 0b01_100_101] = .ok (.bit4L, []) := rfl
theorem test_decode_jump_condition : decode [0b11_0_10_010, 0x00, 0x20] = .ok (.jpNCImm16 0x2000, []) := rfl
theorem test_decode_call_condition : decode [0b11_0_00_100, 0x00, 0x30] = .ok (.callNZImm16 0x3000, []) := rfl
theorem test_decode_restart : decode [0b11_111_111] = .ok (.rst38H, []) := rfl
theorem test_decode_stop_takes_two_bytes : decode [0x10, 0x5A, 0x01] = .ok (.stop 0x5A, [0x01]) := rfl
theorem test_decode_halt_is_not_a_load : decode [0b01_110_110] = .ok (.halt, []) := rfl
theorem test_decode_truncated : decode [0xC3, 0x00] = .error (.truncated 0xC3) := rfl
theorem test_decode_table_row : decodeTableWord 8 0x01 = some (.ldBCImm16 0x0000)
    ∧ decodeTableWord 16 0xCB37 = some .swapA ∧ decodeTableWord 8 0xCB = some .prefixCB := by decide

/-! Every row with operand fields, its word built from the fields of R121 and R124 to R128; then the rows
without. -/

theorem test_decode_ld_r_r (d r : Reg8) : decode [opcode 1 d.code r.code] = .ok (.ldReg d r, []) := by
  cases d <;> cases r <;> rfl
theorem test_decode_ld_r_n (d : Reg8) (n : Byte) : decode [opcode 0 d.code 6, n] = .ok (.ldRegImm d n, []) := by
  cases d <;> rfl
theorem test_decode_ld_r_at_hl (d : Reg8) : decode [opcode 1 d.code 6] = .ok (.ldRegMem d, []) := by
  cases d <;> rfl
theorem test_decode_ld_at_hl_r (r : Reg8) : decode [opcode 1 6 r.code] = .ok (.ldMemReg r, []) := by
  cases r <;> rfl
theorem test_decode_ld_rr_nn (p : Pair) (lo hi : Byte) :
    decode [opcodeOfPair 0 p.code 0 1, lo, hi] = .ok (.ldPair p (joinBytes hi lo), []) := by cases p <;> rfl
theorem test_decode_push_rr (p : StackPair) : decode [opcodeOfPair 3 p.code 0 5] = .ok (.push p, []) := by
  cases p <;> rfl
theorem test_decode_pop_rr (p : StackPair) : decode [opcodeOfPair 3 p.code 0 1] = .ok (.pop p, []) := by
  cases p <;> rfl
theorem test_decode_alu_r (o : AluOp) (r : Reg8) : decode [opcode 2 o.code r.code] = .ok (.aluReg o r, []) := by
  cases o <;> cases r <;> rfl
theorem test_decode_alu_at_hl (o : AluOp) : decode [opcode 2 o.code 6] = .ok (.aluMem o, []) := by
  cases o <;> rfl
theorem test_decode_alu_n (o : AluOp) (n : Byte) : decode [opcode 3 o.code 6, n] = .ok (.aluImm o n, []) := by
  cases o <;> rfl
theorem test_decode_inc_r (r : Reg8) : decode [opcode 0 r.code 4] = .ok (.incReg r, []) := by cases r <;> rfl
theorem test_decode_dec_r (r : Reg8) : decode [opcode 0 r.code 5] = .ok (.decReg r, []) := by cases r <;> rfl
theorem test_decode_add_hl_rr (p : Pair) : decode [opcodeOfPair 0 p.code 1 1] = .ok (.addHLPair p, []) := by
  cases p <;> rfl
theorem test_decode_inc_rr (p : Pair) : decode [opcodeOfPair 0 p.code 0 3] = .ok (.incPair p, []) := by
  cases p <;> rfl
theorem test_decode_dec_rr (p : Pair) : decode [opcodeOfPair 0 p.code 1 3] = .ok (.decPair p, []) := by
  cases p <;> rfl
theorem test_decode_rot_r (o : RotOp) (r : Reg8) :
    decode [0xCB, opcode 0 o.code r.code] = .ok (.rotReg o r, []) := by cases o <;> cases r <;> rfl
theorem test_decode_rot_at_hl (o : RotOp) : decode [0xCB, opcode 0 o.code 6] = .ok (.rotMem o, []) := by
  cases o <;> rfl
theorem test_decode_bit_r (b : BitIdx) (r : Reg8) :
    decode [0xCB, opcode 1 b.code r.code] = .ok (.bitReg b r, []) := by cases b <;> cases r <;> rfl
theorem test_decode_bit_at_hl (b : BitIdx) : decode [0xCB, opcode 1 b.code 6] = .ok (.bitMem b, []) := by
  cases b <;> rfl
theorem test_decode_res_r (b : BitIdx) (r : Reg8) :
    decode [0xCB, opcode 2 b.code r.code] = .ok (.resReg b r, []) := by cases b <;> cases r <;> rfl
theorem test_decode_res_at_hl (b : BitIdx) : decode [0xCB, opcode 2 b.code 6] = .ok (.resMem b, []) := by
  cases b <;> rfl
theorem test_decode_set_r (b : BitIdx) (r : Reg8) :
    decode [0xCB, opcode 3 b.code r.code] = .ok (.setReg b r, []) := by cases b <;> cases r <;> rfl
theorem test_decode_set_at_hl (b : BitIdx) : decode [0xCB, opcode 3 b.code 6] = .ok (.setMem b, []) := by
  cases b <;> rfl
theorem test_decode_jp_cc (c : Cond) (lo hi : Byte) :
    decode [opcode 3 (0#1 ++ c.code) 2, lo, hi] = .ok (.jpCond c (joinBytes hi lo), []) := by cases c <;> rfl
theorem test_decode_jr_cc (c : Cond) (e : Byte) :
    decode [opcode 0 (1#1 ++ c.code) 0, e] = .ok (.jrCond c e, []) := by cases c <;> rfl
theorem test_decode_call_cc (c : Cond) (lo hi : Byte) :
    decode [opcode 3 (0#1 ++ c.code) 4, lo, hi] = .ok (.callCond c (joinBytes hi lo), []) := by cases c <;> rfl
theorem test_decode_ret_cc (c : Cond) : decode [opcode 3 (0#1 ++ c.code) 0] = .ok (.retCond c, []) := by
  cases c <;> rfl
theorem test_decode_rst (t : RstTarget) : decode [opcode 3 t.code 7] = .ok (.rst t, []) := by cases t <;> rfl

theorem test_decode_plain_loads (n lo hi : Byte) :
    decode [0x36, n] = .ok (.ldAtHLImm n, []) ∧ decode [0x0A] = .ok (.ldAAtBC, [])
    ∧ decode [0x1A] = .ok (.ldAAtDE, []) ∧ decode [0x02] = .ok (.ldAtBCA, [])
    ∧ decode [0x12] = .ok (.ldAtDEA, []) ∧ decode [0xFA, lo, hi] = .ok (.ldAAtNn (joinBytes hi lo), [])
    ∧ decode [0xEA, lo, hi] = .ok (.ldAtNnA (joinBytes hi lo), []) ∧ decode [0xF2] = .ok (.ldhAAtC, [])
    ∧ decode [0xE2] = .ok (.ldhAtCA, []) ∧ decode [0xF0, n] = .ok (.ldhAAtN n, [])
    ∧ decode [0xE0, n] = .ok (.ldhAtNA n, []) ∧ decode [0x3A] = .ok (.ldAAtHLDec, [])
    ∧ decode [0x32] = .ok (.ldAtHLDecA, []) ∧ decode [0x2A] = .ok (.ldAAtHLInc, [])
    ∧ decode [0x22] = .ok (.ldAtHLIncA, []) ∧ decode [0x08, lo, hi] = .ok (.ldAtNnSP (joinBytes hi lo), [])
    ∧ decode [0xF9] = .ok (.ldSPHL, []) ∧ decode [0xF8, n] = .ok (.ldHLSPOff n, [])
    ∧ decode [0xE8, n] = .ok (.addSPOff n, []) :=
  ⟨rfl, rfl, rfl, rfl, rfl, rfl, rfl, rfl, rfl, rfl, rfl, rfl, rfl, rfl, rfl, rfl, rfl, rfl, rfl⟩

theorem test_decode_plain_arithmetic :
    decode [0x34] = .ok (.incAtHL, []) ∧ decode [0x35] = .ok (.decAtHL, [])
    ∧ decode [0x27] = .ok (.daa, []) ∧ decode [0x2F] = .ok (.cpl, []) ∧ decode [0x37] = .ok (.scf, [])
    ∧ decode [0x3F] = .ok (.ccf, []) ∧ decode [0x07] = .ok (.rlca, []) ∧ decode [0x0F] = .ok (.rrca, [])
    ∧ decode [0x17] = .ok (.rla, []) ∧ decode [0x1F] = .ok (.rra, []) :=
  ⟨rfl, rfl, rfl, rfl, rfl, rfl, rfl, rfl, rfl, rfl⟩

theorem test_decode_plain_control (n lo hi : Byte) :
    decode [0xC3, lo, hi] = .ok (.jpImm16 (joinBytes hi lo), []) ∧ decode [0xE9] = .ok (.jpHL, [])
    ∧ decode [0x18, n] = .ok (.jrOff n, []) ∧ decode [0xCD, lo, hi] = .ok (.callImm16 (joinBytes hi lo), [])
    ∧ decode [0xC9] = .ok (.ret, []) ∧ decode [0xD9] = .ok (.reti, []) ∧ decode [0x00] = .ok (.nop, [])
    ∧ decode [0x76] = .ok (.halt, []) ∧ decode [0x10, n] = .ok (.stop n, [])
    ∧ decode [0xF3] = .ok (.di, []) ∧ decode [0xFB] = .ok (.ei, []) ∧ decode [0xCB] = .ok (.prefixCB, []) :=
  ⟨rfl, rfl, rfl, rfl, rfl, rfl, rfl, rfl, rfl, rfl, rfl, rfl⟩

theorem test_decode_unassigned :
    decode [0xD3] = .ok (.undefinedD3, []) ∧ decode [0xDB] = .ok (.undefinedDB, [])
    ∧ decode [0xDD] = .ok (.undefinedDD, []) ∧ decode [0xE3] = .ok (.undefinedE3, [])
    ∧ decode [0xE4] = .ok (.undefinedE4, []) ∧ decode [0xEB] = .ok (.undefinedEB, [])
    ∧ decode [0xEC] = .ok (.undefinedEC, []) ∧ decode [0xED] = .ok (.undefinedED, [])
    ∧ decode [0xF4] = .ok (.undefinedF4, []) ∧ decode [0xFC] = .ok (.undefinedFC, [])
    ∧ decode [0xFD] = .ok (.undefinedFD, []) :=
  ⟨rfl, rfl, rfl, rfl, rfl, rfl, rfl, rfl, rfl, rfl, rfl⟩

/-! ## One step: rows of spec/95 section 2 -/

theorem test_R140_LD_B_C :
    after (start [0x41] [] fun r => { r with b := 0x12, c := 0x34 })
      (fun t => (t.cpu.b, t.cpu.c, t.elapsedCycles)) = some (0x34, 0x34, 4) := by decide
theorem test_R141_LD_A_0x7F :
    after (start [0x3E, 0x7F] [] fun r => { r with a := 0x00 })
      (fun t => (t.cpu.a, t.elapsedCycles)) = some (0x7F, 8) := by decide
theorem test_R142_LD_D_atHL :
    after (start [0x56] [(0xC000, 0x5A)] fun r => { r with h := 0xC0, l := 0x00 })
      (fun t => (t.cpu.d, t.elapsedCycles)) = some (0x5A, 8) := by decide
theorem test_R142_LD_H_atHL :
    after (start [0x66] [(0xC000, 0x12)] fun r => { r with h := 0xC0, l := 0x00 })
      (fun t => (t.cpu.hl, t.elapsedCycles)) = some (0x1200, 8) := by decide
theorem test_R143_LD_atHL_A :
    after (start [0x77] [] fun r => { r with h := 0xC0, l := 0x10, a := 0x99 })
      (fun t => (t.mem.read 0xC010, t.elapsedCycles)) = some (0x99, 8) := by decide
theorem test_R144_LD_atHL_0x2A :
    after (start [0x36, 0x2A] [] fun r => { r with h := 0xC0, l := 0x00 })
      (fun t => (t.mem.read 0xC000, t.elapsedCycles)) = some (0x2A, 12) := by decide
theorem test_R145_LD_A_BC :
    after (start [0x0A] [(0xC001, 0x11)] fun r => { r with b := 0xC0, c := 0x01 })
      (fun t => (t.cpu.a, t.elapsedCycles)) = some (0x11, 8) := by decide
theorem test_R146_LD_A_DE :
    after (start [0x1A] [] fun r => { r with d := 0x01, e := 0x04 })
      (fun t => (t.cpu.a, t.elapsedCycles)) = some (0x00, 8) := by decide
theorem test_R147_LD_BC_A :
    after (start [0x02] [] fun r => { r with b := 0xC0, c := 0x02, a := 0x42 })
      (fun t => (t.mem.read 0xC002, t.elapsedCycles)) = some (0x42, 8) := by decide
theorem test_R148_LD_DE_A :
    after (start [0x12] [] fun r => { r with d := 0x80, e := 0x00, a := 0xFF })
      (fun t => (t.mem.read 0x8000, t.elapsedCycles)) = some (0xFF, 8) := by decide
theorem test_R149_LD_A_0xC123 :
    after (start [0xFA, 0x23, 0xC1] [(0xC123, 0x77)] id)
      (fun t => (t.cpu.a, t.elapsedCycles)) = some (0x77, 16) := by decide
theorem test_R150_LD_0xC100_A :
    after (start [0xEA, 0x00, 0xC1] [] fun r => { r with a := 0x05 })
      (fun t => (t.mem.read 0xC100, t.elapsedCycles)) = some (0x05, 16) := by decide
theorem test_R151_LDH_A_C :
    after (start [0xF2] [(0xFF80, 0x3C)] fun r => { r with c := 0x80 })
      (fun t => (t.cpu.a, t.elapsedCycles)) = some (0x3C, 8) := by decide
theorem test_R152_LDH_C_A :
    after (start [0xE2] [] fun r => { r with c := 0x80, a := 0x77 })
      (fun t => (t.mem.read 0xFF80, t.elapsedCycles)) = some (0x77, 8) := by decide
theorem test_R153_LDH_A_0x0F :
    after (start [0xF0, 0x0F] [] id)
      (fun t => (t.cpu.a, t.elapsedCycles)) = some (0xE0, 12) := by decide
theorem test_R154_LDH_0x80_A :
    after (start [0xE0, 0x80] [] fun r => { r with a := 0xC0 })
      (fun t => (t.mem.read 0xFF80, t.elapsedCycles)) = some (0xC0, 12) := by decide
theorem test_R155_LD_A_HL :
    after (start [0x3A] [(0xC005, 0x10)] fun r => { r with h := 0xC0, l := 0x05 })
      (fun t => (t.cpu.a, t.cpu.hl, t.elapsedCycles)) = some (0x10, 0xC004, 8) := by decide
theorem test_R156_LD_HL_A :
    after (start [0x32] [] fun r => { r with h := 0x9F, l := 0xFF, a := 0x00 })
      (fun t => (t.cpu.hl, t.mem.read 0x9FFF, t.elapsedCycles)) = some (0x9FFE, 0x00, 8) := by decide
theorem test_R157_LD_A_HL :
    after (start [0x2A] [(0xC150, 0x01)] fun r => { r with h := 0xC1, l := 0x50 })
      (fun t => (t.cpu.a, t.cpu.hl, t.elapsedCycles)) = some (0x01, 0xC151, 8) := by decide
theorem test_R158_LD_HL_A :
    after (start [0x22] [] fun r => { r with h := 0xC0, l := 0x00, a := 0xAB })
      (fun t => (t.mem.read 0xC000, t.cpu.hl, t.elapsedCycles)) = some (0xAB, 0xC001, 8) := by decide
theorem test_R158_LD_HL_A_HL_0xFFFF :
    after (start [0x22] [] fun r => { r with h := 0xFF, l := 0xFF, a := 0x1F })
      (fun t => (t.cpu.hl, t.elapsedCycles)) = some (0x0000, 8) := by decide
theorem test_R170_LD_HL_0x1234 :
    after (start [0x21, 0x34, 0x12] [] id)
      (fun t => (t.cpu.hl, t.elapsedCycles)) = some (0x1234, 12) := by decide
theorem test_R171_LD_0xC000_SP :
    after (start [0x08, 0x00, 0xC0] [] fun r => { r with sp := 0xDFF0 })
      (fun t => (t.mem.read 0xC000, t.mem.read 0xC001, t.elapsedCycles)) = some (0xF0, 0xDF, 20) := by decide
theorem test_R172_LD_SP_HL :
    after (start [0xF9] [] fun r => { r with h := 0xD0, l := 0x00 })
      (fun t => (t.cpu.sp, t.elapsedCycles)) = some (0xD000, 8) := by decide
theorem test_R173_PUSH_BC :
    after (start [0xC5] [] fun r => { r with sp := 0xFFFE, b := 0x12, c := 0x34 })
      (fun t => (t.cpu.sp, t.mem.read 0xFFFD, t.mem.read 0xFFFC, t.elapsedCycles))
        = some (0xFFFC, 0x12, 0x34, 16) := by decide
theorem test_R174_POP_AF :
    after (start [0xF1] [(0xC000, 0xFF), (0xC001, 0x12)] fun r => { r with sp := 0xC000 })
      (fun t => (t.cpu.a, t.cpu.flags.toByte, t.cpu.sp, t.elapsedCycles))
        = some (0x12, 0xF0, 0xC002, 12) := by decide
theorem test_R174_POP_DE :
    after (start [0xD1] [(0xC000, 0x34), (0xC001, 0x12)] fun r => { r with sp := 0xC000 })
      (fun t => (t.cpu.de, t.cpu.sp, t.elapsedCycles)) = some (0x1234, 0xC002, 12) := by decide
theorem test_R175_LD_HL_SP_2 :
    after (start [0xF8, 0x02] [] fun r => { r with sp := 0xFFF8, flags := Flags.ofByte 0xF0 })
      (fun t => (t.cpu.hl, t.cpu.flags.toByte, t.elapsedCycles)) = some (0xFFFA, 0x00, 12) := by decide
theorem test_R175_LD_HL_SP_1 :
    after (start [0xF8, 0xFF] [] fun r => { r with sp := 0x0000 })
      (fun t => (t.cpu.hl, t.cpu.flags.toByte, t.elapsedCycles)) = some (0xFFFF, 0x00, 12) := by decide
theorem test_R181_ADD_A_B :
    after (start [0x80] [] fun r => { r with a := 0x3A, b := 0xC6 })
      (fun t => (t.cpu.a, t.cpu.flags.toByte, t.elapsedCycles)) = some (0x00, 0xB0, 4) := by decide
theorem test_R182_ADD_A_atHL :
    after (start [0x86] [(0xC000, 0x12)] fun r => { r with a := 0x3C, h := 0xC0, l := 0x00 })
      (fun t => (t.cpu.a, t.cpu.flags.toByte, t.elapsedCycles)) = some (0x4E, 0x00, 8) := by decide
theorem test_R183_ADD_A_0xFF :
    after (start [0xC6, 0xFF] [] fun r => { r with a := 0x3C })
      (fun t => (t.cpu.a, t.cpu.flags.toByte, t.elapsedCycles)) = some (0x3B, 0x30, 8) := by decide
theorem test_R184_ADC_A_E :
    after (start [0x8B] [] fun r => { r with a := 0xE1, e := 0x0F, flags := Flags.ofByte 0x10 })
      (fun t => (t.cpu.a, t.cpu.flags.toByte, t.elapsedCycles)) = some (0xF1, 0x20, 4) := by decide
theorem test_R184_ADC_A_B_0x0F_0x00_1 :
    after (start [0x88] [] fun r => { r with a := 0x0F, b := 0x00, flags := Flags.ofByte 0x10 })
      (fun t => (t.cpu.a, t.cpu.flags.toByte, t.elapsedCycles)) = some (0x10, 0x20, 4) := by decide
theorem test_R185_ADC_A_atHL :
    after (start [0x8E] [(0xC000, 0x1E)] fun r => { r with a := 0xE1, h := 0xC0, l := 0x00, flags := Flags.ofByte 0x10 })
      (fun t => (t.cpu.a, t.cpu.flags.toByte, t.elapsedCycles))
        = some (0x00, 0xB0, 8) := by decide
theorem test_R186_ADC_A_0x3B :
    after (start [0xCE, 0x3B] [] fun r => { r with a := 0xE1, flags := Flags.ofByte 0x10 })
      (fun t => (t.cpu.a, t.cpu.flags.toByte, t.elapsedCycles)) = some (0x1D, 0x10, 8) := by decide
theorem test_R187_SUB_A_E :
    after (start [0x93] [] fun r => { r with a := 0x3E, e := 0x3E })
      (fun t => (t.cpu.a, t.cpu.flags.toByte, t.elapsedCycles)) = some (0x00, 0xC0, 4) := by decide
theorem test_R188_SUB_A_atHL :
    after (start [0x96] [(0xC000, 0x40)] fun r => { r with a := 0x3E, h := 0xC0, l := 0x00 })
      (fun t => (t.cpu.a, t.cpu.flags.toByte, t.elapsedCycles)) = some (0xFE, 0x50, 8) := by decide
theorem test_R189_SUB_A_0x0F :
    after (start [0xD6, 0x0F] [] fun r => { r with a := 0x3E })
      (fun t => (t.cpu.a, t.cpu.flags.toByte, t.elapsedCycles)) = some (0x2F, 0x60, 8) := by decide
theorem test_R190_SBC_A_H :
    after (start [0x9C] [] fun r => { r with a := 0x3B, h := 0x2A, flags := Flags.ofByte 0x10 })
      (fun t => (t.cpu.a, t.cpu.flags.toByte, t.elapsedCycles)) = some (0x10, 0x40, 4) := by decide
theorem test_R190_SBC_A_A_CF_0 :
    after (start [0x9F] [] fun r => { r with a := 0x42 })
      (fun t => (t.cpu.a, t.cpu.flags.toByte, t.elapsedCycles)) = some (0x00, 0xC0, 4) := by decide
theorem test_R191_SBC_A_atHL :
    after (start [0x9E] [(0xC000, 0x4F)] fun r => { r with a := 0x3B, h := 0xC0, l := 0x00, flags := Flags.ofByte 0x10 })
      (fun t => (t.cpu.a, t.cpu.flags.toByte, t.elapsedCycles))
        = some (0xEB, 0x70, 8) := by decide
theorem test_R192_SBC_A_0x3A :
    after (start [0xDE, 0x3A] [] fun r => { r with a := 0x3B, flags := Flags.ofByte 0x10 })
      (fun t => (t.cpu.a, t.cpu.flags.toByte, t.elapsedCycles)) = some (0x00, 0xC0, 8) := by decide
theorem test_R202_CP_A_B :
    after (start [0xB8] [] fun r => { r with a := 0x3C, b := 0x2F })
      (fun t => (t.cpu.a, t.cpu.flags.toByte, t.elapsedCycles)) = some (0x3C, 0x60, 4) := by decide
theorem test_R203_CP_A_atHL :
    after (start [0xBE] [(0xC000, 0x40)] fun r => { r with a := 0x3C, h := 0xC0, l := 0x00 })
      (fun t => (t.cpu.a, t.cpu.flags.toByte, t.elapsedCycles)) = some (0x3C, 0x50, 8) := by decide
theorem test_R204_CP_A_0x3C :
    after (start [0xFE, 0x3C] [] fun r => { r with a := 0x3C })
      (fun t => (t.cpu.flags.toByte, t.elapsedCycles)) = some (0xC0, 8) := by decide
theorem test_R193_AND_A_L :
    after (start [0xA5] [] fun r => { r with a := 0x5A, l := 0x3F })
      (fun t => (t.cpu.a, t.cpu.flags.toByte, t.elapsedCycles)) = some (0x1A, 0x20, 4) := by decide
theorem test_R194_AND_A_atHL :
    after (start [0xA6] [] fun r => { r with a := 0x5A, h := 0xC0, l := 0x00 })
      (fun t => (t.cpu.a, t.cpu.flags.toByte, t.elapsedCycles)) = some (0x00, 0xA0, 8) := by decide
theorem test_R195_AND_A_0x38 :
    after (start [0xE6, 0x38] [] fun r => { r with a := 0x5A })
      (fun t => (t.cpu.a, t.cpu.flags.toByte, t.elapsedCycles)) = some (0x18, 0x20, 8) := by decide
theorem test_R196_XOR_A_B :
    after (start [0xA8] [] fun r => { r with a := 0xFF, b := 0x0F, flags := Flags.ofByte 0xF0 })
      (fun t => (t.cpu.a, t.cpu.flags.toByte, t.elapsedCycles)) = some (0xF0, 0x00, 4) := by decide
theorem test_R197_XOR_A_atHL :
    after (start [0xAE] [(0xC000, 0x8A)] fun r => { r with a := 0xFF, h := 0xC0, l := 0x00 })
      (fun t => (t.cpu.a, t.cpu.flags.toByte, t.elapsedCycles)) = some (0x75, 0x00, 8) := by decide
theorem test_R198_XOR_A_0xFF :
    after (start [0xEE, 0xFF] [] fun r => { r with a := 0xFF })
      (fun t => (t.cpu.a, t.cpu.flags.toByte, t.elapsedCycles)) = some (0x00, 0x80, 8) := by decide
theorem test_R199_OR_A_C :
    after (start [0xB1] [] fun r => { r with a := 0x5A, c := 0x0F, flags := Flags.ofByte 0xF0 })
      (fun t => (t.cpu.a, t.cpu.flags.toByte, t.elapsedCycles)) = some (0x5F, 0x00, 4) := by decide
theorem test_R200_OR_A_atHL :
    after (start [0xB6] [] fun r => { r with a := 0x00, h := 0xC0, l := 0x00 })
      (fun t => (t.cpu.a, t.cpu.flags.toByte, t.elapsedCycles)) = some (0x00, 0x80, 8) := by decide
theorem test_R201_OR_A_0x03 :
    after (start [0xF6, 0x03] [] fun r => { r with a := 0x5A })
      (fun t => (t.cpu.a, t.cpu.flags.toByte, t.elapsedCycles)) = some (0x5B, 0x00, 8) := by decide
theorem test_R205_INC_B_0xFF :
    after (start [0x04] [] fun r => { r with b := 0xFF, flags := Flags.ofByte 0x10 })
      (fun t => (t.cpu.b, t.cpu.flags.toByte, t.elapsedCycles)) = some (0x00, 0xB0, 4) := by decide
theorem test_R205_INC_A_0x0F :
    after (start [0x3C] [] fun r => { r with a := 0x0F })
      (fun t => (t.cpu.a, t.cpu.flags.toByte, t.elapsedCycles)) = some (0x10, 0x20, 4) := by decide
theorem test_R206_INC_atHL :
    after (start [0x34] [(0xC000, 0x50)] fun r => { r with h := 0xC0, l := 0x00 })
      (fun t => (t.mem.read 0xC000, t.cpu.flags.toByte, t.elapsedCycles)) = some (0x51, 0x00, 12) := by decide
theorem test_R207_DEC_L_0x01 :
    after (start [0x2D] [] fun r => { r with l := 0x01 })
      (fun t => (t.cpu.l, t.cpu.flags.toByte, t.elapsedCycles)) = some (0x00, 0xC0, 4) := by decide
theorem test_R208_DEC_atHL_0x00 :
    after (start [0x35] [] fun r => { r with h := 0xC0, l := 0x00 })
      (fun t => (t.mem.read 0xC000, t.cpu.flags.toByte, t.elapsedCycles)) = some (0xFF, 0x60, 12) := by decide
theorem test_R209_DAA_after_0x45_0x38 :
    after (start [0x27] [] fun r => { r with a := 0x7D })
      (fun t => (t.cpu.a, t.cpu.flags.toByte, t.elapsedCycles)) = some (0x83, 0x00, 4) := by decide
theorem test_R209_DAA_after_0x99_0x01_A_0x9A :
    after (start [0x27] [] fun r => { r with a := 0x9A })
      (fun t => (t.cpu.a, t.cpu.flags.toByte, t.elapsedCycles)) = some (0x00, 0x90, 4) := by decide
theorem test_R210_CPL :
    after (start [0x2F] [] fun r => { r with a := 0x35, flags := Flags.ofByte 0x80 })
      (fun t => (t.cpu.a, t.cpu.flags.toByte, t.elapsedCycles)) = some (0xCA, 0xE0, 4) := by decide
theorem test_R211_SCF :
    after (start [0x37] [] fun r => { r with flags := Flags.ofByte 0xE0 })
      (fun t => (t.cpu.flags.toByte, t.elapsedCycles)) = some (0x90, 4) := by decide
theorem test_R212_CCF :
    after (start [0x3F] [] fun r => { r with flags := Flags.ofByte 0xF0 })
      (fun t => (t.cpu.flags.toByte, t.elapsedCycles)) = some (0x80, 4) := by decide
theorem test_R220_ADD_HL_BC :
    after (start [0x09] [] fun r => { r with h := 0x8A, l := 0x23, b := 0x06, c := 0x05, flags := Flags.ofByte 0x80 })
      (fun t => (t.cpu.hl, t.cpu.flags.toByte, t.elapsedCycles))
        = some (0x9028, 0xA0, 8) := by decide
theorem test_R220_ADD_HL_HL :
    after (start [0x29] [] fun r => { r with h := 0x80, l := 0x00 })
      (fun t => (t.cpu.hl, t.cpu.flags.toByte, t.elapsedCycles)) = some (0x0000, 0x10, 8) := by decide
theorem test_R221_INC_DE :
    after (start [0x13] [] fun r => { r with d := 0x23, e := 0x5F, flags := Flags.ofByte 0xF0 })
      (fun t => (t.cpu.de, t.cpu.flags.toByte, t.elapsedCycles)) = some (0x2360, 0xF0, 8) := by decide
theorem test_R222_DEC_BC :
    after (start [0x0B] [] fun r => { r with b := 0x00, c := 0x01 })
      (fun t => (t.cpu.bc, t.cpu.flags.toByte, t.elapsedCycles)) = some (0x0000, 0x00, 8) := by decide
theorem test_R223_ADD_SP_2 :
    after (start [0xE8, 0x02] [] fun r => { r with sp := 0xFFF8, flags := Flags.ofByte 0xF0 })
      (fun t => (t.cpu.sp, t.cpu.flags.toByte, t.elapsedCycles)) = some (0xFFFA, 0x00, 16) := by decide
theorem test_R223_ADD_SP_1_SP_0 :
    after (start [0xE8, 0xFF] [] fun r => { r with sp := 0x0000 })
      (fun t => (t.cpu.sp, t.cpu.flags.toByte, t.elapsedCycles)) = some (0xFFFF, 0x00, 16) := by decide
theorem test_R231_RLCA :
    after (start [0x07] [] fun r => { r with a := 0x85, flags := Flags.ofByte 0xE0 })
      (fun t => (t.cpu.a, t.cpu.flags.toByte, t.elapsedCycles)) = some (0x0B, 0x10, 4) := by decide
theorem test_R231_RLCA_A_0 :
    after (start [0x07] [] fun r => { r with a := 0x00, flags := Flags.ofByte 0xF0 })
      (fun t => (t.cpu.a, t.cpu.flags.toByte, t.elapsedCycles)) = some (0x00, 0x00, 4) := by decide
theorem test_R232_RRCA :
    after (start [0x0F] [] fun r => { r with a := 0x3B })
      (fun t => (t.cpu.a, t.cpu.flags.toByte, t.elapsedCycles)) = some (0x9D, 0x10, 4) := by decide
theorem test_R233_RLA :
    after (start [0x17] [] fun r => { r with a := 0x95, flags := Flags.ofByte 0x10 })
      (fun t => (t.cpu.a, t.cpu.flags.toByte, t.elapsedCycles)) = some (0x2B, 0x10, 4) := by decide
theorem test_R234_RRA :
    after (start [0x1F] [] fun r => { r with a := 0x81 })
      (fun t => (t.cpu.a, t.cpu.flags.toByte, t.elapsedCycles)) = some (0x40, 0x10, 4) := by decide
theorem test_R235_RLC_B :
    after (start [0xCB, 0x00] [] fun r => { r with b := 0x85 })
      (fun t => (t.cpu.b, t.cpu.flags.toByte, t.elapsedCycles)) = some (0x0B, 0x10, 8) := by decide
theorem test_R236_RLC_atHL :
    after (start [0xCB, 0x06] [] fun r => { r with h := 0xC0, l := 0x00 })
      (fun t => (t.mem.read 0xC000, t.cpu.flags.toByte, t.elapsedCycles)) = some (0x00, 0x80, 16) := by decide
theorem test_R237_RRC_C :
    after (start [0xCB, 0x09] [] fun r => { r with c := 0x01 })
      (fun t => (t.cpu.c, t.cpu.flags.toByte, t.elapsedCycles)) = some (0x80, 0x10, 8) := by decide
theorem test_R238_RRC_atHL :
    after (start [0xCB, 0x0E] [] fun r => { r with h := 0xC0, l := 0x00 })
      (fun t => (t.mem.read 0xC000, t.cpu.flags.toByte, t.elapsedCycles)) = some (0x00, 0x80, 16) := by decide
theorem test_R239_RL_L :
    after (start [0xCB, 0x15] [] fun r => { r with l := 0x80 })
      (fun t => (t.cpu.l, t.cpu.flags.toByte, t.elapsedCycles)) = some (0x00, 0x90, 8) := by decide
theorem test_R240_RL_atHL :
    after (start [0xCB, 0x16] [(0xC000, 0x11)] fun r => { r with h := 0xC0, l := 0x00 })
      (fun t => (t.mem.read 0xC000, t.cpu.flags.toByte, t.elapsedCycles)) = some (0x22, 0x00, 16) := by decide
theorem test_R241_RR_A :
    after (start [0xCB, 0x1F] [] fun r => { r with a := 0x01 })
      (fun t => (t.cpu.a, t.cpu.flags.toByte, t.elapsedCycles)) = some (0x00, 0x90, 8) := by decide
theorem test_R242_RR_atHL :
    after (start [0xCB, 0x1E] [(0xC000, 0x8A)] fun r => { r with h := 0xC0, l := 0x00 })
      (fun t => (t.mem.read 0xC000, t.cpu.flags.toByte, t.elapsedCycles)) = some (0x45, 0x00, 16) := by decide
theorem test_R243_SLA_D :
    after (start [0xCB, 0x22] [] fun r => { r with d := 0x80 })
      (fun t => (t.cpu.d, t.cpu.flags.toByte, t.elapsedCycles)) = some (0x00, 0x90, 8) := by decide
theorem test_R244_SLA_atHL :
    after (start [0xCB, 0x26] [(0xC000, 0xFF)] fun r => { r with h := 0xC0, l := 0x00 })
      (fun t => (t.mem.read 0xC000, t.cpu.flags.toByte, t.elapsedCycles)) = some (0xFE, 0x10, 16) := by decide
theorem test_R245_SRA_A :
    after (start [0xCB, 0x2F] [] fun r => { r with a := 0x8A })
      (fun t => (t.cpu.a, t.cpu.flags.toByte, t.elapsedCycles)) = some (0xC5, 0x00, 8) := by decide
theorem test_R246_SRA_atHL :
    after (start [0xCB, 0x2E] [(0xC000, 0x01)] fun r => { r with h := 0xC0, l := 0x00 })
      (fun t => (t.mem.read 0xC000, t.cpu.flags.toByte, t.elapsedCycles)) = some (0x00, 0x90, 16) := by decide
theorem test_R247_SWAP_A :
    after (start [0xCB, 0x37] [] fun r => { r with a := 0xF1, flags := Flags.ofByte 0xF0 })
      (fun t => (t.cpu.a, t.cpu.flags.toByte, t.elapsedCycles)) = some (0x1F, 0x00, 8) := by decide
theorem test_R248_SWAP_atHL :
    after (start [0xCB, 0x36] [(0xC000, 0xF0)] fun r => { r with h := 0xC0, l := 0x00 })
      (fun t => (t.mem.read 0xC000, t.cpu.flags.toByte, t.elapsedCycles)) = some (0x0F, 0x00, 16) := by decide
theorem test_R249_SRL_A :
    after (start [0xCB, 0x3F] [] fun r => { r with a := 0x01 })
      (fun t => (t.cpu.a, t.cpu.flags.toByte, t.elapsedCycles)) = some (0x00, 0x90, 8) := by decide
theorem test_R250_SRL_atHL :
    after (start [0xCB, 0x3E] [(0xC000, 0xFF)] fun r => { r with h := 0xC0, l := 0x00 })
      (fun t => (t.mem.read 0xC000, t.cpu.flags.toByte, t.elapsedCycles)) = some (0x7F, 0x10, 16) := by decide
theorem test_R251_BIT_7_A :
    after (start [0xCB, 0x7F] [] fun r => { r with a := 0x80, flags := Flags.ofByte 0x10 })
      (fun t => (t.cpu.a, t.cpu.flags.toByte, t.elapsedCycles)) = some (0x80, 0x30, 8) := by decide
theorem test_R251_BIT_4_L :
    after (start [0xCB, 0x65] [] fun r => { r with l := 0xEF })
      (fun t => (t.cpu.l, t.cpu.flags.toByte, t.elapsedCycles)) = some (0xEF, 0xA0, 8) := by decide
theorem test_R252_BIT_0_atHL :
    after (start [0xCB, 0x46] [(0xC000, 0xFE)] fun r => { r with h := 0xC0, l := 0x00 })
      (fun t => (t.mem.read 0xC000, t.cpu.flags.toByte, t.elapsedCycles)) = some (0xFE, 0xA0, 12) := by decide
theorem test_R253_RES_7_A :
    after (start [0xCB, 0xBF] [] fun r => { r with a := 0x80, flags := Flags.ofByte 0xF0 })
      (fun t => (t.cpu.a, t.cpu.flags.toByte, t.elapsedCycles)) = some (0x00, 0xF0, 8) := by decide
theorem test_R254_RES_3_atHL :
    after (start [0xCB, 0x9E] [(0xC000, 0xFF)] fun r => { r with h := 0xC0, l := 0x00 })
      (fun t => (t.mem.read 0xC000, t.elapsedCycles)) = some (0xF7, 16) := by decide
theorem test_R255_SET_2_A :
    after (start [0xCB, 0xD7] [] fun r => { r with a := 0x80 })
      (fun t => (t.cpu.a, t.elapsedCycles)) = some (0x84, 8) := by decide
theorem test_R256_SET_7_atHL :
    after (start [0xCB, 0xFE] [] fun r => { r with h := 0xC0, l := 0x00 })
      (fun t => (t.mem.read 0xC000, t.elapsedCycles)) = some (0x80, 16) := by decide
theorem test_R271_JP_0x0150 :
    after (start [0xC3, 0x50, 0x01] [] id)
      (fun t => (t.cpu.pc, t.elapsedCycles)) = some (0x0150, 16) := by decide
theorem test_R272_JP_Z_0x2000_Z_1 :
    after (start [0xCA, 0x00, 0x20] [] fun r => { r with flags := Flags.ofByte 0x80 })
      (fun t => (t.cpu.pc, t.elapsedCycles)) = some (0x2000, 16) := by decide
theorem test_R272_JP_Z_0x2000_Z_0 :
    after (start [0xCA, 0x00, 0x20] [] id)
      (fun t => (t.cpu.pc, t.elapsedCycles)) = some (0x0103, 12) := by decide
theorem test_R273_JP_HL :
    after (start [0xE9] [] fun r => { r with h := 0xC1, l := 0x23 })
      (fun t => (t.cpu.pc, t.elapsedCycles)) = some (0xC123, 4) := by decide
theorem test_R274_JR_5 :
    after (start [0x18, 0x05] [] id)
      (fun t => (t.cpu.pc, t.elapsedCycles)) = some (0x0107, 12) := by decide
theorem test_R275_JR_NZ_4_Z_1 :
    after (start [0x20, 0xFC] [] fun r => { r with flags := Flags.ofByte 0x80 })
      (fun t => (t.cpu.pc, t.elapsedCycles)) = some (0x0102, 8) := by decide
theorem test_R275_JR_C_2_C_1 :
    after (start [0x38, 0x02] [] fun r => { r with flags := Flags.ofByte 0x10 })
      (fun t => (t.cpu.pc, t.elapsedCycles)) = some (0x0104, 12) := by decide
theorem test_R276_CALL_0x1234 :
    after (start [0xCD, 0x34, 0x12] [] fun r => { r with sp := 0xFFFE })
      (fun t => (t.cpu.sp, t.cpu.pc, t.mem.read 0xFFFD, t.mem.read 0xFFFC, t.elapsedCycles))
        = some (0xFFFC, 0x1234, 0x01, 0x03, 24) := by decide +kernel
theorem test_R277_CALL_C_0x3000_C_0 :
    after (start [0xDC, 0x00, 0x30] [] fun r => { r with sp := 0xFFFE })
      (fun t => (t.cpu.sp, t.cpu.pc, t.elapsedCycles)) = some (0xFFFE, 0x0103, 12) := by decide +kernel
theorem test_R277_CALL_NZ_0x3000_Z_0 :
    after (start [0xC4, 0x00, 0x30] [] fun r => { r with sp := 0xD000 })
      (fun t => (t.cpu.sp, t.cpu.pc, t.mem.read 0xCFFF, t.mem.read 0xCFFE, t.elapsedCycles))
        = some (0xCFFE, 0x3000, 0x01, 0x03, 24) := by decide +kernel
theorem test_R278_RET :
    after (start [0xC9] [(0xFFFC, 0x03), (0xFFFD, 0x02)] fun r => { r with sp := 0xFFFC })
      (fun t => (t.cpu.sp, t.cpu.pc, t.elapsedCycles)) = some (0xFFFE, 0x0203, 16) := by decide
theorem test_R279_RET_Z_Z_1 :
    after (start [0xC8] [(0xFFFC, 0x03), (0xFFFD, 0x02)] fun r => { r with sp := 0xFFFC, flags := Flags.ofByte 0x80 })
      (fun t => (t.cpu.sp, t.cpu.pc, t.elapsedCycles))
        = some (0xFFFE, 0x0203, 20) := by decide
theorem test_R279_RET_Z_Z_0 :
    after (start [0xC8] [] fun r => { r with sp := 0xFFFC })
      (fun t => (t.cpu.sp, t.cpu.pc, t.elapsedCycles)) = some (0xFFFC, 0x0101, 8) := by decide
theorem test_R280_RETI :
    after (start [0xD9] [(0xFFFC, 0x34), (0xFFFD, 0x02)] fun r => { r with sp := 0xFFFC, ime := false })
      (fun t => (t.cpu.sp, t.cpu.pc, t.cpu.ime, t.elapsedCycles)) = some (0xFFFE, 0x0234, true, 16) := by decide
theorem test_R281_RST_0x28 :
    after (start [0xEF] [] fun r => { r with sp := 0xD000, pc := 0x0200 })
      (fun t => (t.cpu.sp, t.cpu.pc, t.mem.read 0xCFFF, t.mem.read 0xCFFE, t.elapsedCycles))
        = some (0xCFFE, 0x0028, 0x02, 0x01, 16) := by decide
theorem test_R290_NOP :
    after (start [0x00] [] fun r => { r with a := 0x12, flags := Flags.ofByte 0xF0 })
      (fun t => (t.cpu.a, t.cpu.flags.toByte, t.cpu.pc, t.elapsedCycles))
        = some (0x12, 0xF0, 0x0101, 4) := by decide
theorem test_R293_DI :
    after (start [0xF3] [] fun r => { r with ime := true })
      (fun t => (t.cpu.ime, t.elapsedCycles)) = some (false, 4) := by decide
theorem test_R296_0xD3_unassigned :
    after (start [0xD3] [] fun r => { r with a := 0x12, flags := Flags.ofByte 0xF0 })
      (fun t => (t.cpu.a, t.cpu.flags.toByte, t.cpu.pc, t.elapsedCycles))
        = some (0x12, 0xF0, 0x0101, 4) := by decide
/-! ## One step: section 3 of spec/95 and the rules named -/

theorem test_R291_halt : after (start [0x76] [] fun r => { r with ime := true })
    (fun t => (t.cpu.halted, t.cpu.haltBug, t.cpu.pc)) = some (true, false, 0x0101) := by decide
theorem test_R291_halt_bug : after ((start [0x76] [] id).withIrq ⟨0x04, 0x04⟩)
    (fun t => (t.cpu.halted, t.cpu.haltBug)) = some (false, true) := by decide
theorem test_R318_halt_bug_reads_the_opcode_twice :
    after (start [0x3E, 0x14] [] fun r => { r with haltBug := true })
      (fun t => (t.cpu.a, t.cpu.pc, t.cpu.haltBug)) = some (0x3E, 0x0101, false) := by decide
theorem test_R292_stop : after (start [0x10, 0x00] [] id)
    (fun t => (t.cpu.stopped, t.cpu.pc, t.elapsedCycles)) = some (true, 0x0102, 8) := by decide
theorem test_R294_ei : after (start [0xFB] [] id)
    (fun t => (t.cpu.ime, t.cpu.eiCounter)) = some (false, 2) := by decide
theorem test_R305_fault_freezes_after_the_opcode_fetch : faulted (step (startOf faulting [0xD3] [] id))
    (fun op u => (op, u.cpu.pc, u.elapsedCycles)) = some (0xD3, 0x0101, 0) := by decide
theorem test_R373_one_tick : ticked 1 (start [0x3E, 0x14] [] id)
    (fun u => (u.flight, u.state.cpu.a, u.state.elapsedCycles)) = some (.fetching [0x3E], 0x01, 4) := by decide
theorem test_R206_reads_in_one_tick_and_writes_in_the_next :
    [2, 3].map (fun n => ticked n (start [0x34] [(0xC000, 0x0F)] fun r => { r with h := 0xC0, l := 0x00 })
      (fun u => (u.state.mem.read 0xC000, u.flight == .boundary))) = [some (0x0F, false), some (0x10, true)] := by
  decide
theorem test_T7_dispatch : after ((start [] [] fun r => { r with ime := true }).withIrq ⟨0x05, 0x05⟩)
    (fun t => (t.cpu.pc, t.cpu.sp, t.cpu.ime, t.irq.flags, t.mem.read 0xFFFD, t.elapsedCycles))
      = some (0x0040, 0xFFFC, false, 0x04, 0x01, 20) := by decide +kernel
theorem test_T1_overflow_then_reload :
    let s := (start [0x00, 0x00] [] id).withTimer
      { counter := 0x0C, tima := 0xFF, tma := 0x80, tac := 5, reloadDelay := 0 }
    s.timerStep.timer.tima = 0 ∧ s.timerStep.irq.flags = 0
      ∧ s.timerStep.timerStep.timer.tima = 0x80 ∧ s.timerStep.timerStep.irq.flags = 4 := by decide
theorem test_R334_div_write_counts : ((start [] [] id).withTimer
      { counter := 0x0008, tima := 0x10, tma := 0, tac := 5, reloadDelay := 0 }).timer.divWrite
    = { counter := 0, tima := 0x11, tma := 0, tac := 5, reloadDelay := 0 } := by decide
theorem test_R84_blocked_oam_reads_ff :
    ((start [] [(0xFE00, 0x12)] id).withDma ⟨0, .running, .stopped, 0⟩).busRead 0xFE00 = 0xFF := by decide
theorem test_R82_echo : (start [] [(0xC123, 0x77)] id).busRead 0xE123 = 0x77 := by decide
theorem test_R60_p1_reads_pressed_as_zero :
    (((start [] [] id).hostEvent (.keyDown .left)).busWrite 0xFF00 0x20).busRead 0xFF00 = 0xED := by decide
theorem test_first_step_from_withFetchWord :
    after (State.reset.withFetchWord 16 0xCB37) (fun t => (t.cpu.a, t.cpu.pc)) = some (0x10, 0x0102) := by
  decide
/-- Nothing copied, T4b's 30 bytes left after one pair, and the last 14: the shared formula with integer division. -/
theorem test_R348_hdma5_divides_without_remainder :
    [32, 30, 14].map (fun n => ({ State.reset.hdma with state := .running, total := n } : Hdma).status false)
      = [0x01, 0x00, 0x7F] := by decide
/-- The same three, the partly copied block counted as one more. -/
theorem test_R44_hdma5_rounds_the_partly_copied_block_up :
    [32, 30, 14].map (fun n => ({ State.reset.hdma with state := .running, total := n } : Hdma).status true)
      = [0x01, 0x01, 0x00] := by decide

/-! ## Witnesses: hypotheses that can be met -/

theorem witness_DecodeOfEncode : (Instr.jpImm16 0xFFFF).wf = true ∧ Instr.set7A.wf = true := by decide

theorem witness_StepRunsTheDecodedInstruction :
    let s := State.reset
    let s1 := s.startTick.withCpu s.cpu.countEi
    s1.polledSource = none ∧ s1.cpu.halted = false ∧ s1.cpu.stopped = false
      ∧ decode s1.fetchInstr.1 = .ok (.nop, []) := ⟨rfl, rfl, rfl, rfl⟩

theorem witness_FetchReadsTheBytesAtPC :
    operandCount ((start [0x00] [] id).busRead 0x0100) = 0
    ∧ operandCount ((start [0xCB, 0x37] [] id).busRead 0x0100) = 1
    ∧ operandCount ((start [0xC3, 0x50, 0x01] [] id).busRead 0x0100) = 2 := by decide

/-- The last three bytes of cartridge ROM. -/
theorem witness_RomInstructionRuns :
    let s := start [] [(0x7FFD, 0xC3), (0x7FFE, 0x50), (0x7FFF, 0x01)] fun r => { r with pc := 0x7FFD }
    let i := Instr.jpImm16 0x0150
    i.wf = true ∧ s.io.bootActive = false ∧ s.cpu.haltBug = false ∧ s.cpu.halted = false
    ∧ s.cpu.stopped = false ∧ (s.startTick.withCpu s.cpu.countEi).polledSource = none
    ∧ s.cpu.pc.toNat + (encode i).length = 0x8000
    ∧ ∀ k, k < (encode i).length → s.mem.read (s.cpu.pc.toNat + k) = (encode i).getD k 0 := by decide

theorem witness_OnlyUnassignedOpcodesStop :
    (∃ u, step (startOf faulting [0xFD] [] id) = .fault (.fatalDecode 0xFD u))
    ∧ State.reset.params.undefinedPolicy = .nop := ⟨⟨_, rfl⟩, rfl⟩

theorem witness_ParametersNeverChange :
    (∃ t, step State.reset = .next t) ∧ State.reset.io.bootActive = false := ⟨⟨_, rfl⟩, rfl⟩

theorem witness_IdleWhileHalted :
    let s := start [] [] fun r => { r with halted := true, ime := true }
    let u := start [] [] fun r => { r with stopped := true }
    s.cpu.halted = true ∧ (s.startTick.withCpu s.cpu.countEi).polledSource = none
    ∧ u.cpu.stopped = true ∧ (u.startTick.withCpu u.cpu.countEi).polledSource = none
    ∧ s.NeverFreezes := ⟨rfl, by decide, rfl, by decide, .inl rfl⟩

/-- A dispatch from running, from HALTED and from STOPPED, with pushes into working RAM. -/
theorem witness_DispatchSequence : ∀ hs ∈ [(false, false), (true, false), (false, true)],
    let s := (start [] [] fun r =>
      { r with ime := true, sp := 0xD000, halted := hs.1, stopped := hs.2 }).withIrq ⟨0x14, 0x14⟩
    let s1 := s.startTick.withCpu s.cpu.countEi
    s1.polledSource = some 2 ∧ s1.cpu.ime = true := by decide

theorem witness_DispatchSavesOnlyThePC :
    let s := (start [] [] fun r => { r with ime := true, sp := 0xD000 }).withIrq ⟨0x14, 0x14⟩
    let s1 := s.startTick.withCpu s.cpu.countEi
    let m3 := s1.nextCycle.nextCycle
    let m4 := (m3.busWrite (s.cpu.sp - 1) (highByte s.cpu.pc)).nextCycle
    s1.polledSource = some 2 ∧ s1.cpu.ime = true
    ∧ (s.route (s.cpu.sp - 1) ≠ .io ∧ s.route (s.cpu.sp - 1) ≠ .ie)
    ∧ (s.route (s.cpu.sp - 2) ≠ .io ∧ s.route (s.cpu.sp - 2) ≠ .ie)
    ∧ s.irq.flags.getLsbD 4 = true ∧ s.mem.wf
    ∧ m3.writtenCell (s.cpu.sp - 1) = some 0xCFFF ∧ m4.writtenCell (s.cpu.sp - 2) = some 0xCFFE := by decide

theorem witness_DispatchSavesOnlyThePC_cells :
    let s := start [] [] fun r => { r with ime := true, sp := 0xD000 }
    ¬ s.EngineCell 0xCFFF ∧ ¬ s.EngineCell 0xCFFE ∧ ¬ s.EngineCell 0xFE00 := by
  unfold State.EngineCell IsOamCell IsVramCell; decide

theorem witness_WakeWithoutIme : ∀ hs ∈ [(true, false), (false, true)],
    let s := (start [0x3C] [] fun r => { r with halted := hs.1, stopped := hs.2 }).withIrq ⟨0x10, 0x10⟩
    let s1 := s.startTick.withCpu s.cpu.countEi
    let w := (if s.cpu.stopped then s1.nextCycle else s1).withCpu
      { s1.cpu with halted := false, stopped := false }
    s1.polledSource = some 4 ∧ s1.cpu.ime = false ∧ w.fetchInstr.1 = [0x3C] := by decide

theorem witness_EiDelay :
    let s := (start [0x3C] [] fun r => { r with eiCounter := 2 }).withIrq ⟨0x01, 0x01⟩
    let u := (start [] [] fun r => { r with eiCounter := 1 }).withIrq ⟨0x01, 0x01⟩
    s.cpu.halted = false ∧ s.cpu.stopped = false ∧ s.cpu.ime = false
    ∧ (s.startTick.withCpu { s.cpu with eiCounter := 1 }).fetchInstr.1 = [0x3C]
    ∧ u.cpu.halted = false ∧ u.cpu.stopped = false ∧ u.startTick.polledSource = some 0 := by decide

theorem witness_decode_of_inc_a : decode [0x3C] = .ok (.incA, []) := rfl

/-- A base machine, and an enhanced one with HDMA stopped and with HDMA running, HBlank-gated. -/
theorem witness_InstructionsTakeTheirMCycles :
    let s := start [] [] fun r => { r with pc := 0x0103 }
    let u := startOf enhanced [] [] id
    (Instr.callNZImm16 0x3000).wf = true
    ∧ (s.NeverFreezes ∧ ∃ t, exec (.callNZImm16 0x3000) s = .next t)
    ∧ (u.NeverFreezes ∧ ∃ t, exec (.callNZImm16 0x3000) u = .next t)
    ∧ (u.withHdma { u.hdma with mode := .hblank, state := .running, total := 32 }).NeverFreezes :=
  ⟨rfl, ⟨.inl rfl, ⟨_, rfl⟩⟩, ⟨.inr (.inl rfl), ⟨_, rfl⟩⟩, .inr (.inr rfl)⟩

/-- The clauses of the frames: a cell no transfer may write, a store that reaches it, a store that goes to no
register, and a cell a running transfer may write. -/
theorem witness_StoreToMemory :
    let s := start [] [] id
    let u := s.nextCycle
    s.mem.wf ∧ u.writtenCell 0xC010 = some 0xC010
    ∧ u.route 0xC010 ≠ .io ∧ u.route 0xC010 ≠ .ie ∧ u.writtenCell 0xFF40 = none
    ∧ (u.writtenCell 0xC011 = some 0xC011 ∧ u.writtenCell 0xC010 ≠ some 0xC011) := by decide

theorem witness_StoreToMemory_cells :
    ¬ (start [] [] id).MayCopyTo 0xC010
    ∧ ((start [] [] id).withDma ⟨0xC0, .running, .running, 1⟩).MayCopyTo 0xFE00 := by
  unfold State.MayCopyTo State.EngineCell IsOamCell IsVramCell; decide

theorem witness_PopPair : StackPair.bc ≠ .af := by decide

/-- 99 + 1 and 1 - 99, with and without a carry in, from a register, from memory and from an immediate. -/
theorem witness_DaaCompletesDecimalArithmetic :
    let s := start [] [(0xC000, 0x01)] fun r =>
      { r with a := 0x99, b := 0x01, h := 0xC0, l := 0x00, flags := ⟨false, false, false, true⟩ }
    let u := start [] [] fun r => { r with a := 0x01, e := 0x99 }
    (s.cpu.a = BitVec.ofNat 8 (99 / 10 * 16 + 99 % 10) ∧ s.cpu.reg .b = BitVec.ofNat 8 (1 / 10 * 16 + 1 % 10)
      ∧ s.nextCycle.busRead s.cpu.hl = BitVec.ofNat 8 (1 / 10 * 16 + 1 % 10) ∧ s.cpu.flags.c = true)
    ∧ (u.cpu.a = BitVec.ofNat 8 (1 / 10 * 16 + 1 % 10) ∧ u.cpu.reg .e = BitVec.ofNat 8 (99 / 10 * 16 + 99 % 10)
      ∧ u.cpu.flags.c = false) := by decide

theorem witness_Calls :
    (start [] [] fun r => { r with flags := ⟨false, false, false, true⟩ }).cpu.flags.cond .c = true
    ∧ (start [] [] id).cpu.flags.cond .c = false := by decide

theorem witness_Returns :
    (start [] [] id).cpu.flags.cond .nz = true
    ∧ (start [] [] fun r => { r with flags := ⟨true, false, false, false⟩ }).cpu.flags.cond .nz = false := by
  decide

theorem witness_SystemInstructions :
    let s := (start [] [] id).withIrq ⟨0x10, 0x10⟩
    let u := (start [] [] id).withIrq ⟨0xE0, 0x1F⟩
    (s.cpu.ime = false ∧ ∃ i : Fin 5, s.irq.ie.getLsbD i = true ∧ s.irq.flags.getLsbD i = true)
    ∧ ¬ (u.cpu.ime = false ∧ ∃ i : Fin 5, u.irq.ie.getLsbD i = true ∧ u.irq.flags.getLsbD i = true) := by
  decide

theorem witness_UnassignedOpcodes :
    (Instr.undefinedFD, (0xFD : Byte)) ∈ ([(.undefinedD3, 0xD3), (.undefinedFD, 0xFD)] : List (Instr × Byte))
    ∧ (start [] [] id).params.undefinedPolicy = .nop
    ∧ (startOf faulting [] [] id).params.undefinedPolicy = .fault := by decide

theorem witness_PairsAliasTheirHalves :
    Reg8.a ≠ .l ∧ Pair.hl ≠ .sp ∧ StackPair.af = .af ∧ StackPair.af ≠ .hl := by decide

/-! The regions, at the first and the last address of each. -/

theorem witness_ReadsByRegion_rom :
    let s := (start [] [] id).withIo { State.reset.io with bootActive := true }
    (∀ a ∈ ([0x0100, 0x0200, 0x7FFF] : List Word).map BitVec.toNat, a < 0x8000
      ∧ ¬ (s.io.bootActive = true ∧ (a < 0x100
        ∨ s.params.enhanced = true ∧ 0x200 ≤ a ∧ a < 0x900)))
    ∧ (∀ a ∈ ([0x0000, 0x00FF] : List Word).map BitVec.toNat, s.io.bootActive = true ∧ a < 0x100) := by decide

theorem witness_ReadsByRegion_overlay :
    let s := State.resetWith { enhanced with bootImage := some [0x31, 0xFE, 0xFF] }
    s.io.bootActive = true ∧ s.params.bootImage = some [0x31, 0xFE, 0xFF]
    ∧ ([0x31, 0xFE, 0xFF] : List Byte)[(0x0002 : Word).toNat]? = some 0xFF
    ∧ (∀ a ∈ ([0x0200, 0x08FF] : List Word).map BitVec.toNat, s.params.enhanced = true ∧ 0x200 ≤ a ∧ a < 0x900)
    := by decide

theorem witness_ReadsByRegion_blocking :
    let s := (start [] [] id).withPpu { State.reset.ppu with mode := .pixelTransfer }
    let u := start [] [] id
    (s.ppu.mode = .pixelTransfer ∧ s.ppu.lcdc.getLsbD 7 = true)
    ∧ ¬ (u.ppu.mode = .pixelTransfer ∧ u.ppu.lcdc.getLsbD 7 = true)
    ∧ ¬ (u.ppu.mode = .oamScan ∨ u.ppu.mode = .pixelTransfer ∨ u.dma.state = .running
      ∨ u.dma.shadow = .running)
    ∧ (u.withDma ⟨0, .stopped, .running, 160⟩).dma.shadow = .running := by decide

theorem witness_ReadsByRegion_addresses :
    (∀ a ∈ ([0x8000, 0x9FFF] : List Word).map BitVec.toNat, 0x8000 ≤ a ∧ a < 0xA000)
    ∧ (∀ a ∈ ([0xA000, 0xBFFF] : List Word).map BitVec.toNat, 0xA000 ≤ a ∧ a < 0xC000)
    ∧ (∀ a ∈ ([0xC000, 0xCFFF, 0xE000, 0xEFFF] : List Word).map BitVec.toNat,
        0xC000 ≤ a ∧ a < 0xFE00 ∧ a % 0x2000 < 0x1000)
    ∧ (∀ a ∈ ([0xD000, 0xDFFF, 0xF000, 0xFDFF] : List Word).map BitVec.toNat,
        0xC000 ≤ a ∧ a < 0xFE00 ∧ 0x1000 ≤ a % 0x2000)
    ∧ (∀ a ∈ ([0xFE00, 0xFE9F] : List Word).map BitVec.toNat, 0xFE00 ≤ a ∧ a < 0xFEA0)
    ∧ (∀ a ∈ ([0xFEA0, 0xFEFF] : List Word).map BitVec.toNat, 0xFEA0 ≤ a ∧ a < 0xFF00)
    ∧ (∀ a ∈ ([0xFF80, 0xFFFE] : List Word).map BitVec.toNat, 0xFF80 ≤ a ∧ a < 0xFFFF)
    ∧ (0xFFFF : Word).toNat = 0xFFFF := by decide

/-- The undecoded I/O addresses, and that their neighbours are none of them. -/
theorem witness_ReadsByRegion_undecoded :
    let undecoded (e : Bool) (n : Nat) : Prop :=
      n = 0xFF03 ∨ 0xFF08 ≤ n ∧ n ≤ 0xFF0E ∨ 0xFF4C ≤ n ∧ n ≤ 0xFF4E ∨ 0xFF56 ≤ n ∧ n ≤ 0xFF6F
          ∨ 0xFF71 ≤ n ∧ n ≤ 0xFF7F ∨ e = false ∧ (n = 0xFF4F ∨ 0xFF51 ≤ n ∧ n ≤ 0xFF55 ∨ n = 0xFF70)
    (∀ n ∈ [0xFF03, 0xFF08, 0xFF0E, 0xFF4C, 0xFF4E, 0xFF56, 0xFF6F, 0xFF71, 0xFF7F], undecoded true n)
    ∧ (∀ n ∈ [0xFF4F, 0xFF51, 0xFF55, 0xFF70], undecoded false n)
    ∧ (∀ n ∈ [0xFF02, 0xFF04, 0xFF07, 0xFF0F, 0xFF4B, 0xFF50, 0xFF80], ¬ undecoded false n) := by decide

theorem witness_WritesByRegion :
    let s := start [] [] id
    (∀ a ∈ ([0x8000, 0x9FFF] : List Word).map BitVec.toNat, 0x8000 ≤ a ∧ a < 0xA000 ∧ s.vramBlocked = false)
    ∧ (∀ a ∈ ([0xFE00, 0xFE9F] : List Word).map BitVec.toNat, 0xFE00 ≤ a ∧ a < 0xFEA0 ∧ s.oamBlocked = false)
    ∧ ((s.withPpu { State.reset.ppu with mode := .pixelTransfer }).vramBlocked = true)
    ∧ ((s.withPpu { State.reset.ppu with mode := .oamScan }).oamBlocked = true) ∧ s.mem.wf := by decide

theorem witness_AddressesShareNoByte :
    let s := start [] [] id
    s.writtenCell 0xC123 = some 0xC123 ∧ s.writtenCell 0xE123 = some 0xC123
    ∧ s.writtenCell 0xDDFF = some 0xDDFF ∧ s.writtenCell 0xFDFF = some 0xDDFF
    ∧ (s.writtenCell 0xDE00 ≠ some 0xDDFF ∧ (0xDE00 : Word).toNat < 0xFF00)
    ∧ (s.writtenCell 0xFF80 ≠ some 0xDDFF ∧ 0xFF80 ≤ (0xFF80 : Word).toNat) := by decide

/-- HDMA5 stopped; and running at the ends of hdmaTotal's range, with no block partly copied and with one, under
either count of that block. -/
theorem witness_RegisterReads :
    let s := startOf enhanced [] [] id
    let running (up : Bool) (n : Nat) : State :=
      let r := startOf { enhanced with hdma5RoundsUp := up } [] [] id
      r.withHdma { r.hdma with state := .running, total := n }
    s.params.enhanced = true ∧ s.hdma.state = .stopped
    ∧ ∀ n ∈ [2, 16, 2046, 2048], ∀ up ∈ [false, true],
        (running up n).params.enhanced = true ∧ (running up n).hdma.state ≠ .stopped
        ∧ (running up n).params.hdma5RoundsUp = up := by decide

theorem witness_RegisterWrites :
    (∀ a ∈ ([0xFF10, 0xFF3F] : List Word).map BitVec.toNat, 0xFF10 ≤ a ∧ a ≤ 0xFF3F)
    ∧ (startOf enhanced [] [] id).params.enhanced = true := by decide

/-- With no reload pending and with one; an edge that counts, one that overflows, and no edge. -/
theorem witness_TimerStep :
    let timer (c : Word) (v : Byte) (d : Nat) : Timer :=
      { counter := c, tima := v, tma := 0xFF, tac := 5, reloadDelay := d }
    let edge (t : Timer) : Prop := t.tac.getLsbD 2 = true ∧ t.counter.getLsbD 3 = true
      ∧ (t.counter + 4).getLsbD 3 = false
    (timer 0x0C 0x10 0).reloadDelay = 0 ∧ edge (timer 0x0C 0x10 0) ∧ (timer 0x0C 0x10 0).tima ≠ 0xFF
    ∧ edge (timer 0x0C 0xFF 0) ∧ ¬ edge (timer 0x08 0xFF 0)
    ∧ (timer 0x0C 0x00 4).reloadDelay = 4 ∧ edge (timer 0x0C 0x00 4) ∧ (timer 0x0C 0x00 4).tma = 0xFF := by
  decide

/-- TIMA counts from 0xFE to 0xFF and no further in 7 steps from counter 0. -/
theorem witness_TimerRate :
    let t : Timer := { counter := 0x0004, tima := 0xFE, tma := 0, tac := 5, reloadDelay := 0 }
    t.tac.getLsbD 2 = true ∧ t.counter.toNat % 4 = 0 ∧ t.reloadDelay = 0 ∧ t.tac.toNat % 4 = 1
    ∧ t.tima.toNat + (t.counter.toNat % 16 + 4 * 6) / 16 = 0xFF := by decide

theorem witness_DividerWrite :
    let timer (c : Word) (v : Byte) (d : Nat) : Timer :=
      { counter := c, tima := v, tma := 0, tac := 5, reloadDelay := d }
    let counts (t : Timer) : Prop := t.tac.getLsbD 2 = true ∧ t.counter.getLsbD 3 = true ∧ t.reloadDelay = 0
    counts (timer 0x08 0xFE 0) ∧ (timer 0x08 0xFE 0).tima ≠ 0xFF ∧ counts (timer 0x08 0xFF 0)
    ∧ ¬ counts (timer 0x07 0x00 0) ∧ ¬ counts (timer 0x08 0x00 4) := by decide

theorem witness_StatLineEdge :
    let p := { State.reset.ppu with statEn := 0x8, lyc := 0, statLine := false }
    (p.ly = p.lyc ∧ p.statEn.getLsbD 3 = true) ∧ p.statLine = false := by decide

theorem witness_FramePosition : State.reset.ppu.Ok ∧ State.reset.ppu.lcdc.getLsbD 7 = true := by
  unfold Ppu.Ok; decide

/-- One step before dot 80, and before line 144. -/
def before80 : Ppu := { State.reset.ppu with dot := 76 }
def before144 : Ppu := { State.reset.ppu with ly := 143, dot := 452, mode := .hblank }

/-- The steps to dot 80 and to line 144, a step to neither, the step after the LCD was turned on, and a step
that finds the LCD turned off in the middle of a frame. -/
theorem witness_PpuStepMode :
    (before80.Ok ∧ before80.advance.dot = 80 ∧ before80.advance.ly.toNat < 144)
    ∧ (before144.Ok ∧ before144.advance.ly = 144 ∧ before144.advance.dot = 0)
    ∧ (State.reset.ppu.Ok ∧ State.reset.ppu.advance.dot = 4)
    ∧ ({ State.reset.ppu with mode := .hblank }.lcdc.getLsbD 7 = true
      ∧ State.reset.ppu.ly = 0 ∧ State.reset.ppu.dot = 0)
    ∧ { before144 with lcdc := 0x11 }.lcdc.getLsbD 7 = false :=
  ⟨⟨by unfold Ppu.Ok; decide, by decide⟩, ⟨by unfold Ppu.Ok; decide, by decide⟩,
    ⟨by unfold Ppu.Ok; decide, by decide⟩, by decide, by decide⟩

/-- From stopped, and again while byte 0x20 is next: the first and the last byte each clause speaks of. -/
theorem witness_OamDmaTransfer :
    let s := start [] [] id
    let u := s.withDma ⟨0xC0, .running, .running, 0x20⟩
    let copied (d : OamDma) (n k : Nat) : Prop :=
      k < 160 ∧ (k + 2 < n ∨ d.state = .running ∧ 0 < n ∧ k = d.index)
    s.mem.wf ∧ s.dma.state = .stopped ∧ u.mem.wf ∧ u.dma.state = .running
    ∧ copied s.dma 3 0 ∧ copied s.dma 162 159 ∧ ¬ copied s.dma 161 159 ∧ ¬ copied s.dma 1 0x20
    ∧ copied u.dma 1 0x20 ∧ ¬ copied u.dma 0 0x20 ∧ ¬ copied u.dma 1 0 := by decide

/-- The longest transfer, to the end of video memory and round, from the end of ROM space. -/
theorem witness_HdmaCopiesItsBytes :
    let s := (startOf enhanced [] [] id).withHdma
      ⟨0x7800, 0x9FF0, .general, .running, .awaitingHBlank, 2048, 0⟩
    s.mem.wf ∧ s.params.enhanced = true ∧ s.hdma.state = .running ∧ s.hdma.mode = .general
    ∧ 0 < s.hdma.total ∧ s.hdma.total % 2 = 0 ∧ s.hdma.total ≤ 2048
    ∧ 0x8000 ≤ s.hdma.dst.toNat ∧ s.hdma.dst.toNat < 0xA000 := by decide

theorem witness_HdmaCopiesItsBytes_source : ∀ k, k < 2048 →
    ((0x7800 : Word) + BitVec.ofNat 16 k).toNat < 0x8000
    ∨ 0xA000 ≤ ((0x7800 : Word) + BitVec.ofNat 16 k).toNat
      ∧ ((0x7800 : Word) + BitVec.ofNat 16 k).toNat < 0xFEA0 := by
  intro k hk
  left
  simp only [BitVec.toNat_add, BitVec.toNat_ofNat, BitVec.ofNat_eq_ofNat]
  omega

/-- A block with one more to come and the last one, from the end of ROM space, round the end of video memory. -/
theorem witness_HdmaCopiesOneBlockPerHBlank : ∀ total ∈ [16, 32],
    let s := (startOf enhanced [] [] id).withHdma
      ⟨0x7FF0, 0x9FF8, .hblank, .running, .awaitingHBlank, total, 0⟩
    s.mem.wf ∧ s.params.enhanced = true ∧ s.hdma.state = .running ∧ s.hdma.mode = .hblank
    ∧ s.hdma.sub = .awaitingHBlank ∧ s.ppu.mode = .hblank ∧ 16 ≤ s.hdma.total
    ∧ 0x8000 ≤ s.hdma.dst.toNat ∧ s.hdma.dst.toNat < 0xA000
    ∧ (∀ k, k < 16 → (s.hdma.src + BitVec.ofNat 16 k).toNat < 0x8000)
    ∧ Mode.oamScan ≠ .hblank := by decide

theorem witness_HdmaFreezesTheCpu :
    let s := (startOf enhanced [] [] id).withHdma
      ⟨0x4000, 0x8000, .general, .running, .awaitingHBlank, 16, 0⟩
    s.params.enhanced = true ∧ s.hdma.state = .running ∧ s.hdma.mode = .general
    ∧ 0 < s.hdma.total ∧ s.hdma.total % 2 = 0 := by decide

theorem witness_HostKeys :
    State.reset.params.keyIrq = .selected
    ∧ (startOf { Params.default with keyIrq := .never } [] [] id).params.keyIrq ≠ .selected
    ∧ (startOf { Params.default with keyIrq := .free } [] [] id).params.keyIrq ≠ .selected := by decide

theorem witness_ResetValues :
    ({ Params.default with bootImage := some [0x31] } : Params).bootImage.isSome = true
    ∧ Params.default.bootImage = none ∧ Params.default.enhanced = false ∧ enhanced.bootImage = none
    ∧ enhanced.enhanced = true := by decide

theorem witness_EveryStepKeepsTheInvariant : State.reset.Inv ∧ ∃ t, step State.reset = .next t :=
  ⟨⟨Memory.nil_wf, by unfold Ppu.Ok; decide, by unfold Timer.Ok; decide, by unfold OamDma.Ok; decide,
    by unfold Hdma.Ok; decide, by unfold Cpu.Ok; decide⟩, ⟨_, rfl⟩⟩

end Sys2Proof.Tests
end

section
/-! SUPPORT. The loads and stores of spec/40_load8.md, with `LD rr,nn` and `LD SP,HL`: how they are encoded,
the state each shared operation finishes in, and the three shapes a statement about them has. -/

namespace Sys2Proof.Machine

/-! ## Encodings of the forms with a register or pair field (R121, R124) -/

theorem encode_ldReg (dst src : Reg8) : encode (.ldReg dst src) = [opcode 1 dst.code src.code] := by
  cases dst <;> cases src <;> rfl

theorem encode_ldRegImm (dst : Reg8) (n : Byte) : encode (.ldRegImm dst n) = [opcode 0 dst.code 6, n] := by
  cases dst <;> rfl

theorem encode_ldRegMem (dst : Reg8) : encode (.ldRegMem dst) = [opcode 1 dst.code 6] := by
  cases dst <;> rfl

theorem encode_ldMemReg (r : Reg8) : encode (.ldMemReg r) = [opcode 1 6 r.code] := by
  cases r <;> rfl

theorem encode_ldPair (p : Pair) (nn : Word) :
    encode (.ldPair p nn) = [opcodeOfPair 0 p.code 0 1, lowByte nn, highByte nn] := by
  cases p <;> rfl

/-! ## What the shared operations finish in: the devices' next M-cycle, the store, the CPU's registers -/

theorem loadFrom_eq (dst : Reg8) (a : Word) (s : State) :
    loadFrom dst a s = finish (s.nextCycle.withCpu (s.cpu.setReg dst (s.nextCycle.busRead a))) := by
  simp [loadFrom, State.setReg]

theorem storeTo_eq (a : Word) (v : Byte) (s : State) :
    storeTo a v s = finish ((s.nextCycle.busWrite a v).withCpu s.cpu) := by
  have h : (s.nextCycle.busWrite a v).cpu = s.cpu := by simp
  rw [← h, State.withCpu_self]
  rfl

theorem loadStepping_eq (step : Word) (s : State) :
    loadStepping step s = finish (s.nextCycle.withCpu
      ((s.cpu.setReg .a (s.nextCycle.busRead s.cpu.hl)).setPair .hl (s.cpu.hl + step))) := by
  simp [loadStepping, State.setReg, State.setPair]

theorem storeStepping_eq (step : Word) (s : State) :
    storeStepping step s = finish ((s.nextCycle.busWrite s.cpu.hl s.cpu.a).withCpu
      (s.cpu.setPair .hl (s.cpu.hl + step))) := by
  simp [storeStepping, State.setPair]

/-! ## The three shapes -/

section
variable {i : Instr} {bytes : List Byte} {s : State}

/-- A form that only changes the CPU's registers, in the M-cycle of its last fetched byte. -/
theorem RunsAs.changesCpuAtOnce {r : Cpu} (encodes : encode i = bytes)
    (runs : exec i s = finish (s.withCpu r)) :
    RunsAs i bytes bytes.length s (fun t => t.cpu = r ∧ s.StoresNothing t) :=
  .of encodes runs (fun _ => by rw [State.withCpu_elapsedCycles]; omega)
    ⟨by simp, (State.Frame.refl s).endsStoring r⟩

/-- A form that only changes the CPU's registers, in the M-cycle after its last fetched byte. -/
theorem RunsAs.changesCpuNextCycle {r : Cpu} (encodes : encode i = bytes)
    (runs : exec i s = finish (s.nextCycle.withCpu r)) :
    RunsAs i bytes (bytes.length + 1) s (fun t => t.cpu = r ∧ s.StoresNothing t) :=
  .of encodes runs
    (fun h => by rw [State.withCpu_elapsedCycles, State.nextCycle_elapsed h]; omega)
    ⟨by simp, s.nextCycle_frame.endsStoring r⟩

/-- A form that stores one byte in the M-cycle after its last fetched byte, and changes the CPU's registers
in the same. -/
theorem RunsAs.storesNextCycle {a : Word} {v : Byte} {r : Cpu} (encodes : encode i = bytes)
    (runs : exec i s = finish ((s.nextCycle.busWrite a v).withCpu r)) :
    RunsAs i bytes (bytes.length + 1) s (fun t => t.cpu = r ∧ s.StoresByte s.nextCycle a v t) :=
  .of encodes runs
    (fun h => by
      rw [State.withCpu_elapsedCycles, State.busWrite_elapsed, State.nextCycle_elapsed h]; omega)
    ⟨by simp, s.nextCycle_frame.storesByte a v r⟩

/-- A load of one byte from memory. -/
theorem RunsAs.loadsFrom {dst : Reg8} {a : Word} (encodes : encode i = bytes)
    (runs : exec i s = loadFrom dst a s) :
    RunsAs i bytes (bytes.length + 1) s (fun t =>
      t.cpu = s.cpu.setReg dst (s.nextCycle.busRead a) ∧ s.StoresNothing t) :=
  .changesCpuNextCycle encodes (runs.trans (loadFrom_eq dst a s))

/-- A store of one byte to memory that leaves the CPU's registers as they are. -/
theorem RunsAs.storesTo {a : Word} {v : Byte} (encodes : encode i = bytes)
    (runs : exec i s = storeTo a v s) :
    RunsAs i bytes (bytes.length + 1) s (fun t => t.cpu = s.cpu ∧ s.StoresByte s.nextCycle a v t) :=
  .storesNextCycle encodes (runs.trans (storeTo_eq a v s))

end

/-! ## The statements -/

/-- Settles O16: all but `LD SP,HL` write the register in the M-cycle of the last fetched byte. -/
theorem loadRegister : Obligations.LoadRegister := by
  unfold Obligations.LoadRegister
  intro dst src n p nn s
  refine ⟨?_, ?_, ?_, ?_⟩
  · exact .changesCpuAtOnce (encode_ldReg dst src) (exec_ldReg dst src s)
  · exact .changesCpuAtOnce (encode_ldRegImm dst n) (exec_ldRegImm dst n s)
  · exact .changesCpuAtOnce (encode_ldPair p nn) (exec_ldPair p nn s)
  · have runs : exec .ldSPHL s = finish (s.nextCycle.withCpu { s.cpu with sp := s.cpu.hl }) := by
      rw [exec_ldSPHL, State.setPair, State.nextCycle_cpu]
      rfl
    exact .changesCpuNextCycle rfl runs

/-- Settles O17: each form is `loadFrom` at its own address. -/
theorem loadFromMemory : Obligations.LoadFromMemory := by
  unfold Obligations.LoadFromMemory
  intro r nn n s
  dsimp only
  refine ⟨?_, ?_, ?_, ?_, ?_, ?_⟩
  · exact .loadsFrom (encode_ldRegMem r) (exec_ldRegMem r s)
  · exact .loadsFrom rfl (exec_ldAAtBC s)
  · exact .loadsFrom rfl (exec_ldAAtDE s)
  · exact .loadsFrom rfl (exec_ldAAtNn nn s)
  · exact .loadsFrom rfl (exec_ldhAAtC s)
  · exact .loadsFrom rfl (exec_ldhAAtN n s)

/-- Settles O18: each form is `storeTo` at its own address, with its own byte. -/
theorem storeToMemory : Obligations.StoreToMemory := by
  unfold Obligations.StoreToMemory
  intro r nn n s
  dsimp only
  refine ⟨?_, ?_, ?_, ?_, ?_, ?_, ?_⟩
  · exact .storesTo (encode_ldMemReg r) (exec_ldMemReg r s)
  · exact .storesTo rfl (exec_ldAtHLImm n s)
  · exact .storesTo rfl (exec_ldAtBCA s)
  · exact .storesTo rfl (exec_ldAtDEA s)
  · exact .storesTo rfl (exec_ldAtNnA nn s)
  · exact .storesTo rfl (exec_ldhAtCA s)
  · exact .storesTo rfl (exec_ldhAtNA n s)

/-- Settles O19: the access and the step of HL share one M-cycle, and the step does not look at the access. -/
theorem stepHL : Obligations.StepHL := by
  unfold Obligations.StepHL
  intro s
  have down : s.cpu.hl - 1 = s.cpu.hl + -1 := sub_eq_add_neg _ _
  rw [down]
  refine ⟨?_, ?_, ?_, ?_⟩
  · exact .changesCpuNextCycle rfl ((exec_ldAAtHLDec s).trans (loadStepping_eq (-1) s))
  · exact .changesCpuNextCycle rfl ((exec_ldAAtHLInc s).trans (loadStepping_eq 1 s))
  · exact .storesNextCycle rfl ((exec_ldAtHLDecA s).trans (storeStepping_eq (-1) s))
  · exact .storesNextCycle rfl ((exec_ldAtHLIncA s).trans (storeStepping_eq 1 s))

end Sys2Proof.Machine
end

section
/-! SUPPORT. The 16-bit loads of spec/41_load16.md and `ADD SP,e`: the M-cycles a form lets pass before it
acts, the state each shared operation finishes in, and a stack pair read back after it was written. -/

namespace Sys2Proof.Machine

/-! ## Several M-cycles that pass -/

@[simp] theorem State.nextCycles_cpu (n : Nat) (s : State) : (State.nextCycle^[n] s).cpu = s.cpu := by
  induction n with
  | zero => rfl
  | succ n ih => rw [Function.iterate_succ_apply', State.nextCycle_cpu, ih]

theorem State.nextCycles_frame (n : Nat) (s : State) : s.Frame (State.nextCycle^[n] s) := by
  induction n with
  | zero => exact .refl s
  | succ n ih => rw [Function.iterate_succ_apply']; exact ih.cycle

theorem State.NeverFreezes.nextCycles {s : State} (h : s.NeverFreezes) (n : Nat) :
    (State.nextCycle^[n] s).NeverFreezes := by
  induction n with
  | zero => exact h
  | succ n ih => rw [Function.iterate_succ_apply']; exact ih.nextCycle

theorem State.nextCycles_elapsed {s : State} (h : s.NeverFreezes) (n : Nat) :
    (State.nextCycle^[n] s).elapsedCycles = s.elapsedCycles + 4 * n := by
  induction n with
  | zero => rfl
  | succ n ih =>
    rw [Function.iterate_succ_apply', State.nextCycle_elapsed (h.nextCycles n), ih]
    omega

/-! ## The shapes -/

section
variable {i : Instr} {bytes : List Byte} {s : State} {m : Nat}

theorem RunsAs.mono {p q : State → Prop} (h : RunsAs i bytes m s p) (imp : ∀ t, p t → q t) :
    RunsAs i bytes m s q := by
  obtain ⟨encodes, t, runs, time, holds⟩ := h
  exact ⟨encodes, t, runs, time, imp t holds⟩

/-- A form that only changes the CPU's registers, `n` M-cycles after its last fetched byte. -/
theorem RunsAs.changesCpuAfter (n : Nat) {r : Cpu} (encodes : encode i = bytes)
    (runs : exec i s = finish ((State.nextCycle^[n] s).withCpu r)) :
    RunsAs i bytes (bytes.length + n) s (fun t => t.cpu = r ∧ s.StoresNothing t) :=
  .of encodes runs
    (fun h => by rw [State.withCpu_elapsedCycles, State.nextCycles_elapsed h]; omega)
    ⟨by simp, (s.nextCycles_frame n).endsStoring r⟩

/-- A form that stores two bytes, the first `n` M-cycles after its last fetched byte and the second in the
M-cycle after that, and then changes the CPU's registers. -/
theorem RunsAs.storesTwoAfter (n : Nat) {a b : Word} {v w : Byte} {r : Cpu} (encodes : encode i = bytes)
    (runs : exec i s =
      finish ((((State.nextCycle^[n] s).busWrite a v).nextCycle.busWrite b w).withCpu r)) :
    RunsAs i bytes (bytes.length + n + 1) s (fun t =>
      t.cpu = r ∧ s.StoresTwo (State.nextCycle^[n] s) a v b w t) :=
  .of encodes runs
    (fun h => by
      rw [State.withCpu_elapsedCycles, State.busWrite_elapsed,
        State.nextCycle_elapsed_stored (h.nextCycles n), State.nextCycles_elapsed h]
      omega)
    ⟨by simp, (s.nextCycles_frame n).storesTwo a b v w r⟩

end

/-! ## A stack pair in the CPU's registers (R22, R174) -/

theorem encode_push (p : StackPair) : encode (.push p) = [opcodeOfPair 3 p.code 0 5] := by
  cases p <;> rfl

theorem encode_pop (p : StackPair) : encode (.pop p) = [opcodeOfPair 3 p.code 0 1] := by
  cases p <;> rfl

theorem Cpu.setStackPair_withSp (r : Cpu) (p : StackPair) (w sp : Word) :
    Cpu.setStackPair { r with sp := sp } p w = { r.setStackPair p w with sp := sp } := by
  cases p <;> rfl

theorem Cpu.stackPair_withSp (r : Cpu) (p : StackPair) (sp : Word) :
    Cpu.stackPair { r with sp := sp } p = r.stackPair p := by
  cases p <;> rfl

/-- A stack pair reads what was written to it, AF without bits 3..0. -/
theorem Cpu.stackPair_setStackPair_self (r : Cpu) (p : StackPair) (hi lo : Byte) :
    (r.setStackPair p (joinBytes hi lo)).stackPair p
      = if p = .af then joinBytes hi (lo &&& 0xF0) else joinBytes hi lo := by
  cases p
  case af => simp [Cpu.setStackPair, Cpu.stackPair, Cpu.af, Flags.toByte_ofByte]
  case bc => simp [Cpu.setStackPair, Cpu.stackPair, Cpu.bc]
  case de => simp [Cpu.setStackPair, Cpu.stackPair, Cpu.de]
  case hl => simp [Cpu.setStackPair, Cpu.stackPair, Cpu.hl, Cpu.setHL]

theorem Cpu.setStackPair_flags (r : Cpu) {p : StackPair} (w : Word) (h : p ≠ .af) :
    (r.setStackPair p w).flags = r.flags := by
  cases p
  case af => exact absurd rfl h
  all_goals rfl

/-! ## What the shared operations finish in -/

theorem State.withCpu_of_cpu_eq {s : State} {r : Cpu} (h : s.cpu = r) : s.withCpu r = s := by
  rw [← h, State.withCpu_self]

theorem storeSP_eq (nn : Word) (s : State) :
    storeSP nn s = finish (((s.nextCycle.busWrite nn (lowByte s.cpu.sp)).nextCycle.busWrite (nn + 1)
      (highByte s.cpu.sp)).withCpu s.cpu) := by
  rw [State.withCpu_of_cpu_eq (by simp)]
  rfl

theorem pushPair_eq (p : StackPair) (s : State) :
    pushPair p s = finish (((s.nextCycle.nextCycle.busWrite (s.cpu.sp - 1)
      (highByte (s.cpu.stackPair p))).nextCycle.busWrite (s.cpu.sp - 2)
      (lowByte (s.cpu.stackPair p))).withCpu { s.cpu with sp := s.cpu.sp - 2 }) := by
  rw [pushPair, State.push16_eq, State.nextCycle_cpu, State.nextCycle_cpu]

theorem popPair_eq (p : StackPair) (s : State) :
    popPair p s = finish (s.nextCycle.nextCycle.withCpu
      { s.cpu.setStackPair p (joinBytes (s.nextCycle.nextCycle.busRead (s.cpu.sp + 1))
          (s.nextCycle.busRead s.cpu.sp)) with sp := s.cpu.sp + 2 }) := by
  simp only [popPair, State.pop16_eq, State.withCpu_cpu, State.withCpu_withCpu, State.nextCycle_cpu,
    Cpu.setStackPair_withSp]

theorem loadHLOffset_eq (e : Byte) (s : State) :
    loadHLOffset e s = finish (s.nextCycle.withCpu
      { s.cpu.setPair .hl (addSPOffset s.cpu.sp e).1 with flags := (addSPOffset s.cpu.sp e).2 }) := by
  simp [loadHLOffset, State.setPair, State.setFlags]

theorem addToSP_eq (e : Byte) (s : State) :
    addToSP e s = finish (s.nextCycle.nextCycle.withCpu
      { s.cpu with sp := (addSPOffset s.cpu.sp e).1, flags := (addSPOffset s.cpu.sp e).2 }) := by
  simp [addToSP, State.setPair, State.setFlags, Cpu.setPair]

/-! ## The statements -/

/-- Settles O20: both forms are two stores one M-cycle apart, `PUSH` after one idle M-cycle more. -/
theorem storePair : Obligations.StorePair := by
  unfold Obligations.StorePair
  intro p nn s
  refine ⟨?_, ?_⟩
  · exact .storesTwoAfter 1 rfl ((exec_ldAtNnSP nn s).trans (storeSP_eq nn s))
  · exact .storesTwoAfter 2 (encode_push p) ((exec_push p s).trans (pushPair_eq p s))

/-- Settles O21: SP is no part of the pair, so the pair reads what was popped. (The name `popPair` is taken by
the model's operation.) -/
theorem popPairHolds : Obligations.PopPair := by
  unfold Obligations.PopPair
  intro p s
  dsimp only
  refine (RunsAs.changesCpuAfter 2 (encode_pop p) ((exec_pop p s).trans (popPair_eq p s))).mono ?_
  rintro t ⟨cpu, stores⟩
  refine ⟨cpu, ?_, fun notAF => ?_, stores⟩
  · rw [cpu, Cpu.stackPair_withSp, Cpu.stackPair_setStackPair_self]
  · rw [cpu]
    exact Cpu.setStackPair_flags s.cpu _ notAF

/-- Settles O22: both forms write `addSPOffset` of SP, `LD HL,SP+e` to HL and `ADD SP,e` to SP. -/
theorem offsetFromStackPointer : Obligations.OffsetFromStackPointer := by
  unfold Obligations.OffsetFromStackPointer
  intro e s
  have rule := addSPOffset_rule s.cpu.sp e
  refine ⟨?_, ?_⟩
  · refine (RunsAs.changesCpuNextCycle rfl
      ((exec_ldHLSPOff e s).trans (loadHLOffset_eq e s))).mono ?_
    rintro t ⟨cpu, stores⟩
    have hl : t.cpu.hl = (addSPOffset s.cpu.sp e).1 := by
      rw [cpu]
      exact Cpu.pair_setPair_self s.cpu .hl _
    have flags : t.cpu.flags = (addSPOffset s.cpu.sp e).2 := by rw [cpu]
    rw [hl, flags]
    exact ⟨rule, cpu, stores⟩
  · refine (RunsAs.changesCpuAfter 2 rfl ((exec_addSPOff e s).trans (addToSP_eq e s))).mono ?_
    rintro t ⟨cpu, stores⟩
    have sp : t.cpu.sp = (addSPOffset s.cpu.sp e).1 := by rw [cpu]
    have flags : t.cpu.flags = (addSPOffset s.cpu.sp e).2 := by rw [cpu]
    rw [sp, flags]
    exact ⟨rule, cpu, stores⟩

end Sys2Proof.Machine
end

section
/-! SUPPORT. 8-bit arithmetic and logic, spec/42_alu8.md: how its forms are encoded, the registers each shared
operation leaves, and the shapes of a statement whose result and flags are given by a rule. What the rules say
of `alu`, `inc8`, `dec8` and `daa` is in Laws/Flags. -/

namespace Sys2Proof.Machine

/-! ## Encodings of the forms with an operation or register field (R121, R124) -/

theorem encode_aluReg (op : AluOp) (r : Reg8) :
    encode (.aluReg op r) = [opcode 2 op.code r.code] := by
  cases op <;> cases r <;> rfl

theorem encode_aluMem (op : AluOp) : encode (.aluMem op) = [opcode 2 op.code 6] := by
  cases op <;> rfl

theorem encode_aluImm (op : AluOp) (n : Byte) : encode (.aluImm op n) = [opcode 3 op.code 6, n] := by
  cases op <;> rfl

theorem encode_incReg (r : Reg8) : encode (.incReg r) = [opcode 0 r.code 4] := by
  cases r <;> rfl

theorem encode_decReg (r : Reg8) : encode (.decReg r) = [opcode 0 r.code 5] := by
  cases r <;> rfl

/-! ## What the shared operations finish in -/

theorem aluWithReg_eq (op : AluOp) (r : Reg8) (s : State) :
    aluWithReg op r s
      = finish (s.withCpu (s.cpu.setAF (alu op s.cpu.a (s.cpu.reg r) s.cpu.flags))) := rfl

theorem aluWithMem_eq (op : AluOp) (s : State) :
    aluWithMem op s = finish (s.nextCycle.withCpu
      (s.cpu.setAF (alu op s.cpu.a (s.nextCycle.busRead s.cpu.hl) s.cpu.flags))) := by
  simp [aluWithMem, State.aluA, State.setAF]

theorem aluWithImm_eq (op : AluOp) (n : Byte) (s : State) :
    aluWithImm op n s = finish (s.withCpu (s.cpu.setAF (alu op s.cpu.a n s.cpu.flags))) := rfl

/-- What INC, DEC, a rotate or a shift of a register is: the register and the flags, at once. -/
theorem updateReg_eq (f : Byte → Flags → Byte × Flags) (r : Reg8) (s : State) :
    updateReg f r s =
      let res := f (s.cpu.reg r) s.cpu.flags
      finish (s.withCpu { s.cpu.setReg r res.1 with flags := res.2 }) := rfl

@[simp] theorem Cpu.reg_withFlags (q : Cpu) (r : Reg8) (f : Flags) :
    Cpu.reg { q with flags := f } r = q.reg r := by
  cases r <;> rfl

/-! ## The shapes: `res` is what the model computes, and `Rule` what the spec says of it -/

section
variable {i : Instr} {bytes : List Byte} {m : Nat} {s : State} {res : Byte × Flags}
  {Rule : Byte → Flags → Prop}

/-- A form that writes A and the flags, and nothing else. -/
theorem RunsAs.setsAFBy (rule : Rule res.1 res.2)
    (h : RunsAs i bytes m s (fun t => t.cpu = s.cpu.setAF res ∧ s.StoresNothing t)) :
    RunsAs i bytes m s (fun t => Rule t.cpu.a t.cpu.flags
      ∧ t.cpu = { s.cpu with a := t.cpu.a, flags := t.cpu.flags } ∧ s.StoresNothing t) := by
  refine h.mono ?_
  rintro t ⟨cpu, stores⟩
  rw [cpu]
  exact ⟨rule, rfl, stores⟩

/-- A form that writes one register and the flags, and nothing else. -/
theorem RunsAs.setsRegBy {r : Reg8} (rule : Rule res.1 res.2)
    (h : RunsAs i bytes m s (fun t =>
      t.cpu = { s.cpu.setReg r res.1 with flags := res.2 } ∧ s.StoresNothing t)) :
    RunsAs i bytes m s (fun t => Rule (t.cpu.reg r) t.cpu.flags
      ∧ t.cpu = { s.cpu.setReg r (t.cpu.reg r) with flags := t.cpu.flags } ∧ s.StoresNothing t) := by
  refine h.mono ?_
  rintro t ⟨cpu, stores⟩
  have reg : t.cpu.reg r = res.1 := by rw [cpu, Cpu.reg_withFlags, Cpu.reg_setReg_self]
  have flags : t.cpu.flags = res.2 := by rw [cpu]
  rw [reg, flags]
  exact ⟨rule, cpu, stores⟩

/-- A form that stores one byte, `n` M-cycles after its last fetched byte, and changes the CPU's registers
in the same. -/
theorem RunsAs.storesAfter (n : Nat) {a : Word} {v : Byte} {r : Cpu} (encodes : encode i = bytes)
    (runs : exec i s = finish (((State.nextCycle^[n] s).busWrite a v).withCpu r)) :
    RunsAs i bytes (bytes.length + n) s (fun t =>
      t.cpu = r ∧ s.StoresByte (State.nextCycle^[n] s) a v t) :=
  .of encodes runs
    (fun h => by
      rw [State.withCpu_elapsedCycles, State.busWrite_elapsed, State.nextCycles_elapsed h]; omega)
    ⟨by simp, (s.nextCycles_frame n).storesByte a v r⟩

/-- A read-modify-write of the byte at HL: read one M-cycle after the last fetched byte, written in the next. -/
theorem RunsAs.modifiesMemBy {f : Byte → Flags → Byte × Flags}
    (rule : Rule (f (s.nextCycle.busRead s.cpu.hl) s.cpu.flags).1
      (f (s.nextCycle.busRead s.cpu.hl) s.cpu.flags).2)
    (encodes : encode i = bytes) (runs : exec i s = modifyMem f s.nextCycle) :
    RunsAs i bytes (bytes.length + 2) s (fun t => ∃ v, Rule v t.cpu.flags
      ∧ t.cpu = { s.cpu with flags := t.cpu.flags }
      ∧ s.StoresByte s.nextCycle.nextCycle s.cpu.hl v t) := by
  refine (RunsAs.storesAfter 2 encodes (runs.trans (modifyMem_eq f s))).mono ?_
  rintro t ⟨cpu, stores⟩
  rw [cpu]
  exact ⟨_, rule, rfl, stores⟩

end

/-! ## The statements -/

/-- Settles O23: A and the flags become what `alu` computes, which `alu_rule` relates to the operands. -/
theorem aluWithRegister : Obligations.AluWithRegister := by
  unfold Obligations.AluWithRegister
  intro op r s
  exact .setsAFBy (alu_rule op s.cpu.a (s.cpu.reg r) s.cpu.flags)
    (.changesCpuAtOnce (encode_aluReg op r) ((exec_aluReg op r s).trans (aluWithReg_eq op r s)))

/-- Settles O24: as with a register, one M-cycle later, with the byte the bus reads then. -/
theorem aluWithMemory : Obligations.AluWithMemory := by
  unfold Obligations.AluWithMemory
  intro op s
  exact .setsAFBy (alu_rule op s.cpu.a (s.nextCycle.busRead s.cpu.hl) s.cpu.flags)
    (.changesCpuNextCycle (encode_aluMem op) ((exec_aluMem op s).trans (aluWithMem_eq op s)))

/-- Settles O25: the immediate is the last fetched byte, so the form acts in the M-cycle of its fetch. -/
theorem aluWithImmediate : Obligations.AluWithImmediate := by
  unfold Obligations.AluWithImmediate
  intro op n s
  exact .setsAFBy (alu_rule op s.cpu.a n s.cpu.flags)
    (.changesCpuAtOnce (encode_aluImm op n) ((exec_aluImm op n s).trans (aluWithImm_eq op n s)))

/-- Settles O26: `inc8` and `dec8` at a register are `updateReg`, at the byte at HL `modifyMem`. -/
theorem incDecByte : Obligations.IncDecByte := by
  unfold Obligations.IncDecByte
  intro r s
  dsimp only
  refine ⟨?_, ?_, ?_, ?_⟩
  · exact .setsRegBy (inc8_rule (s.cpu.reg r) s.cpu.flags)
      (.changesCpuAtOnce (encode_incReg r) ((exec_incReg r s).trans (updateReg_eq inc8 r s)))
  · exact .setsRegBy (dec8_rule (s.cpu.reg r) s.cpu.flags)
      (.changesCpuAtOnce (encode_decReg r) ((exec_decReg r s).trans (updateReg_eq dec8 r s)))
  · exact .modifiesMemBy (inc8_rule _ s.cpu.flags) rfl (exec_incAtHL s)
  · exact .modifiesMemBy (dec8_rule _ s.cpu.flags) rfl (exec_decAtHL s)

/-- Settles O27: DAA by `daa_rule`; the next state of the other three is written out in the statement. -/
theorem adjustAndCarry : Obligations.AdjustAndCarry := by
  unfold Obligations.AdjustAndCarry
  intro s
  refine ⟨?_, ?_, ?_, ?_⟩
  · exact .setsAFBy (daa_rule s.cpu.a s.cpu.flags) (.changesCpuAtOnce rfl (exec_daa s))
  · exact .changesCpuAtOnce rfl (exec_cpl s)
  · exact .changesCpuAtOnce rfl (exec_scf s)
  · exact .changesCpuAtOnce rfl (exec_ccf s)

end Sys2Proof.Machine
end

section
/-! SUPPORT. 16-bit arithmetic, spec/43_alu16.md: how its forms are encoded, the registers each shared
operation leaves in its idle M-cycle, and the shape of `INC rr` and `DEC rr`. What `AddHLRule` says of `addHL`
is in Laws/Flags; `ADD SP,e` is settled with the 16-bit loads. -/

namespace Sys2Proof.Machine

/-! ## Encodings of the forms with a pair field (R121, R124) -/

theorem encode_addHLPair (p : Pair) : encode (.addHLPair p) = [opcodeOfPair 0 p.code 1 1] := by
  cases p <;> rfl

theorem encode_incPair (p : Pair) : encode (.incPair p) = [opcodeOfPair 0 p.code 0 3] := by
  cases p <;> rfl

theorem encode_decPair (p : Pair) : encode (.decPair p) = [opcodeOfPair 0 p.code 1 3] := by
  cases p <;> rfl

/-! ## What the shared operations finish in -/

theorem addToHL_eq (p : Pair) (s : State) :
    addToHL p s =
      let res := addHL s.cpu.hl (s.cpu.pair p) s.cpu.flags
      finish (s.nextCycle.withCpu { s.cpu.setPair .hl res.1 with flags := res.2 }) := by
  simp [addToHL, State.setPair, State.setFlags]

theorem stepPair_eq (p : Pair) (step : Word) (s : State) :
    stepPair p step s
      = finish (s.nextCycle.withCpu (s.cpu.setPair p (s.cpu.pair p + step))) := by
  rw [stepPair, State.setPair, State.nextCycle_cpu]

/-! ## The shapes -/

section
variable {i : Instr} {bytes : List Byte} {s : State}

/-- A form that writes HL and the flags, and nothing else: `res` is what the model computes, and `Rule` what
the spec says of it. -/
theorem RunsAs.setsHLBy {m : Nat} {res : Word × Flags} {Rule : Word → Flags → Prop}
    (rule : Rule res.1 res.2)
    (h : RunsAs i bytes m s (fun t =>
      t.cpu = { s.cpu.setPair .hl res.1 with flags := res.2 } ∧ s.StoresNothing t)) :
    RunsAs i bytes m s (fun t => Rule t.cpu.hl t.cpu.flags
      ∧ t.cpu = { s.cpu.setPair .hl t.cpu.hl with flags := t.cpu.flags } ∧ s.StoresNothing t) := by
  refine h.mono ?_
  rintro t ⟨cpu, stores⟩
  have hl : t.cpu.hl = res.1 := by
    rw [cpu]
    exact Cpu.pair_setPair_self s.cpu .hl _
  have flags : t.cpu.flags = res.2 := by rw [cpu]
  rw [hl, flags]
  exact ⟨rule, cpu, stores⟩

/-- A form that adds `step` to one pair, wrapping at 16 bits, in the M-cycle after its last fetched byte, and
changes nothing else, the flags included. -/
theorem RunsAs.stepsPair {p : Pair} {step : Word} (encodes : encode i = bytes)
    (runs : exec i s = stepPair p step s) :
    RunsAs i bytes (bytes.length + 1) s (fun t => t.cpu = s.cpu.setPair p (t.cpu.pair p)
      ∧ (t.cpu.pair p).toNat = ((s.cpu.pair p).toNat + step.toNat) % 65536
      ∧ s.StoresNothing t) := by
  refine (RunsAs.changesCpuNextCycle encodes (runs.trans (stepPair_eq p step s))).mono ?_
  rintro t ⟨cpu, stores⟩
  have pair : t.cpu.pair p = s.cpu.pair p + step := by rw [cpu, Cpu.pair_setPair_self]
  rw [pair]
  exact ⟨cpu, BitVec.toNat_add _ _, stores⟩

end

/-! ## The statement -/

/-- Settles O29: `ADD HL,rr` writes what `addHL` computes, which `addHL_rule` relates to the operands; `INC rr`
adds 1 and `DEC rr` adds 0xFFFF, which is -1 modulo 0x10000. -/
theorem pairArithmetic : Obligations.PairArithmetic := by
  unfold Obligations.PairArithmetic
  intro p s
  refine ⟨?_, ?_, ?_⟩
  · exact .setsHLBy (addHL_rule s.cpu.hl (s.cpu.pair p) s.cpu.flags)
      (.changesCpuNextCycle (encode_addHLPair p) ((exec_addHLPair p s).trans (addToHL_eq p s)))
  · exact .stepsPair (step := 1) (encode_incPair p) (exec_incPair p s)
  · exact .stepsPair (step := -1) (encode_decPair p) (exec_decPair p s)

end Sys2Proof.Machine
end

section
/-! SUPPORT. Rotates, shifts and bit operations, spec/44_rotate_shift_bit.md: how the prefixed forms are
encoded, the registers `BIT` leaves, and the shapes of `BIT`, `RES` and `SET`. What the rules say of `rotateCB`,
`rotateA`, `bitFlags`, `resetBit` and `setBit` is in Laws/Flags; a rotate or shift has the shapes of `INC`. -/

namespace Sys2Proof.Machine

/-! ## Encodings of the prefixed forms (R121, R126): bit index or operation in `y`, register in `z` -/

theorem encode_rotReg (op : RotOp) (r : Reg8) :
    encode (.rotReg op r) = [0xCB, opcode 0 op.code r.code] := by
  cases op <;> cases r <;> rfl

theorem encode_rotMem (op : RotOp) : encode (.rotMem op) = [0xCB, opcode 0 op.code 6] := by
  cases op <;> rfl

theorem encode_bitReg (b : BitIdx) (r : Reg8) :
    encode (.bitReg b r) = [0xCB, opcode 1 b.code r.code] := by
  cases b <;> cases r <;> rfl

theorem encode_bitMem (b : BitIdx) : encode (.bitMem b) = [0xCB, opcode 1 b.code 6] := by
  cases b <;> rfl

theorem encode_resReg (b : BitIdx) (r : Reg8) :
    encode (.resReg b r) = [0xCB, opcode 2 b.code r.code] := by
  cases b <;> cases r <;> rfl

theorem encode_resMem (b : BitIdx) : encode (.resMem b) = [0xCB, opcode 2 b.code 6] := by
  cases b <;> rfl

theorem encode_setReg (b : BitIdx) (r : Reg8) :
    encode (.setReg b r) = [0xCB, opcode 3 b.code r.code] := by
  cases b <;> cases r <;> rfl

theorem encode_setMem (b : BitIdx) : encode (.setMem b) = [0xCB, opcode 3 b.code 6] := by
  cases b <;> rfl

/-! ## What `BIT` of the byte at HL finishes in -/

theorem testBitMem_eq (b : BitIdx) (s : State) :
    testBitMem b s = finish (s.nextCycle.withCpu
      { s.cpu with flags := bitFlags b (s.nextCycle.busRead s.cpu.hl) s.cpu.flags }) := by
  rw [testBitMem, State.setFlags, State.nextCycle_cpu]

/-! ## The shapes -/

section
variable {i : Instr} {bytes : List Byte} {m : Nat} {s : State}

/-- A form that writes the flags, and nothing else. -/
theorem RunsAs.setsFlagsBy {f : Flags} {Rule : Flags → Prop} (rule : Rule f)
    (h : RunsAs i bytes m s (fun t => t.cpu = { s.cpu with flags := f } ∧ s.StoresNothing t)) :
    RunsAs i bytes m s (fun t => Rule t.cpu.flags
      ∧ t.cpu = { s.cpu with flags := t.cpu.flags } ∧ s.StoresNothing t) := by
  refine h.mono ?_
  rintro t ⟨cpu, stores⟩
  rw [cpu]
  exact ⟨rule, rfl, stores⟩

/-- A form that writes one register, and nothing else, the flags included. -/
theorem RunsAs.setsOnlyRegBy {r : Reg8} {v : Byte} {Rule : Byte → Prop} (rule : Rule v)
    (h : RunsAs i bytes m s (fun t => t.cpu = s.cpu.setReg r v ∧ s.StoresNothing t)) :
    RunsAs i bytes m s (fun t => Rule (t.cpu.reg r)
      ∧ t.cpu = s.cpu.setReg r (t.cpu.reg r) ∧ s.StoresNothing t) := by
  refine h.mono ?_
  rintro t ⟨cpu, stores⟩
  have reg : t.cpu.reg r = v := by rw [cpu, Cpu.reg_setReg_self]
  rw [reg]
  exact ⟨rule, cpu, stores⟩

/-- A read-modify-write of the byte at HL that changes no register and no flag. -/
theorem RunsAs.modifiesOnlyMemBy {f : Byte → Byte} {Rule : Byte → Prop}
    (rule : Rule (f (s.nextCycle.busRead s.cpu.hl))) (encodes : encode i = bytes)
    (runs : exec i s = modifyMem (fun v g => (f v, g)) s.nextCycle) :
    RunsAs i bytes (bytes.length + 2) s (fun t => ∃ v, Rule v
      ∧ t.cpu = s.cpu ∧ s.StoresByte s.nextCycle.nextCycle s.cpu.hl v t) := by
  refine (RunsAs.storesAfter 2 encodes (runs.trans (modifyMem_eq _ s))).mono ?_
  rintro t ⟨cpu, stores⟩
  exact ⟨_, rule, cpu, stores⟩

end

/-! ## The statements -/

/-- Settles O30: A and the flags become what `rotateA` computes, which `rotateA_rule` relates to the old A. -/
theorem rotateAccumulator : Obligations.RotateAccumulator := by
  unfold Obligations.RotateAccumulator
  intro s
  have rule (op : RotOp) := rotateA_rule op s.cpu.a s.cpu.flags
  refine ⟨?_, ?_, ?_, ?_⟩
  · exact .setsAFBy (rule .rlc) (.changesCpuAtOnce rfl (exec_rlca s))
  · exact .setsAFBy (rule .rrc) (.changesCpuAtOnce rfl (exec_rrca s))
  · exact .setsAFBy (rule .rl) (.changesCpuAtOnce rfl (exec_rla s))
  · exact .setsAFBy (rule .rr) (.changesCpuAtOnce rfl (exec_rra s))

/-- Settles O31: `rotateCB` at a register is `updateReg`, at the byte at HL `modifyMem`. -/
theorem rotateByte : Obligations.RotateByte := by
  unfold Obligations.RotateByte
  intro op r s
  refine ⟨?_, ?_⟩
  · exact .setsRegBy (rotateCB_rule op (s.cpu.reg r) s.cpu.flags)
      (.changesCpuAtOnce (encode_rotReg op r)
        ((exec_rotReg op r s).trans (updateReg_eq (rotateCB op) r s)))
  · exact .modifiesMemBy (rotateCB_rule op _ s.cpu.flags) (encode_rotMem op) (exec_rotMem op s)

/-- Settles O32: the flags become `bitFlags` of the byte, and nothing is written back. -/
theorem testBit : Obligations.TestBit := by
  unfold Obligations.TestBit
  intro b r s
  refine ⟨?_, ?_⟩
  · exact .setsFlagsBy (bitFlags_rule b (s.cpu.reg r) s.cpu.flags)
      (.changesCpuAtOnce (encode_bitReg b r) (exec_bitReg b r s))
  · exact .setsFlagsBy (bitFlags_rule b (s.nextCycle.busRead s.cpu.hl) s.cpu.flags)
      (.changesCpuNextCycle (encode_bitMem b) ((exec_bitMem b s).trans (testBitMem_eq b s)))

/-- Settles O33: `resetBit` and `setBit` replace the bit, and the flags pass through unchanged. -/
theorem putBit : Obligations.PutBit := by
  unfold Obligations.PutBit
  intro b r s
  refine ⟨?_, ?_, ?_, ?_⟩
  · exact .setsOnlyRegBy (resetBit_rule b (s.cpu.reg r))
      (.changesCpuAtOnce (encode_resReg b r) (exec_resReg b r s))
  · exact .setsOnlyRegBy (setBit_rule b (s.cpu.reg r))
      (.changesCpuAtOnce (encode_setReg b r) (exec_setReg b r s))
  · exact .modifiesOnlyMemBy (resetBit_rule b _) (encode_resMem b) (exec_resMem b s)
  · exact .modifiesOnlyMemBy (setBit_rule b _) (encode_setMem b) (exec_setMem b s)

end Sys2Proof.Machine
end

section
/-! SUPPORT. Jumps, calls and restarts, spec/45_control.md: how the forms with a condition or a restart target
are encoded, the addresses of R274 and R281, the state each shared operation finishes in, and the shapes of a
jump, a conditional jump and a call. -/

namespace Sys2Proof.Machine

/-! ## Encodings of the forms with a condition or a restart target (R121, R124) -/

theorem encode_jpCond (cc : Cond) (nn : Word) :
    encode (.jpCond cc nn) = [opcode 3 (0#1 ++ cc.code) 2, lowByte nn, highByte nn] := by
  cases cc <;> rfl

theorem encode_jrCond (cc : Cond) (e : Byte) :
    encode (.jrCond cc e) = [opcode 0 (1#1 ++ cc.code) 0, e] := by
  cases cc <;> rfl

theorem encode_callCond (cc : Cond) (nn : Word) :
    encode (.callCond cc nn) = [opcode 3 (0#1 ++ cc.code) 4, lowByte nn, highByte nn] := by
  cases cc <;> rfl

theorem encode_rst (r : RstTarget) : encode (.rst r) = [opcode 3 r.code 7] := by
  cases r <;> rfl

/-! ## Where the relative jumps and the restarts go -/

/-- The displacement is added as a signed number, and the sum wraps (R274). -/
theorem add_signExtend_eq_ofInt (pc : Word) (e : Byte) :
    pc + e.signExtend 16 = BitVec.ofInt 16 ((pc.toNat : Int) + e.toInt) := by
  rw [BitVec.ofInt_add, BitVec.ofInt_natCast, BitVec.ofNat_toNat, BitVec.setWidth_eq, BitVec.signExtend]

theorem rstAddress_eq_eight_mul_code (r : RstTarget) : rstAddress r = 8 * r.code.setWidth 16 := by
  cases r <;> rfl

/-! ## What the shared operations finish in -/

theorem jumpTo_eq (target : Word) (s : State) :
    jumpTo target s = finish (s.nextCycle.withCpu { s.cpu with pc := target }) := by
  rw [jumpTo, State.jump, State.nextCycle_cpu]

theorem jumpRelative_eq (e : Byte) (s : State) :
    jumpRelative e s = jumpTo (BitVec.ofInt 16 ((s.cpu.pc.toNat : Int) + e.toInt)) s := by
  rw [jumpRelative, add_signExtend_eq_ofInt]

theorem callTo_eq (target : Word) (s : State) :
    callTo target s = finish (((s.nextCycle.nextCycle.busWrite (s.cpu.sp - 1)
      (highByte s.cpu.pc)).nextCycle.busWrite (s.cpu.sp - 2) (lowByte s.cpu.pc)).withCpu
        { s.cpu with pc := target, sp := s.cpu.sp - 2 }) := by
  simp only [callTo, State.push16_eq, State.jump, State.withCpu_cpu, State.withCpu_withCpu,
    State.nextCycle_cpu]

/-! ## The shapes -/

section
variable {i : Instr} {bytes : List Byte} {s : State} {target : Word}

/-- A jump: an idle M-cycle after the fetches, and PC alone changes. -/
theorem RunsAs.jumps (encodes : encode i = bytes) (runs : exec i s = jumpTo target s) :
    RunsAs i bytes (bytes.length + 1) s (fun t =>
      t.cpu = { s.cpu with pc := target } ∧ s.StoresNothing t) :=
  .changesCpuNextCycle encodes (runs.trans (jumpTo_eq target s))

/-- A jump that its condition decides; not taken, it ends with its fetches. -/
theorem RunsAs.jumpsIf {taken : Bool} (encodes : encode i = bytes)
    (runs : exec i s = if taken then jumpTo target s else finish s) :
    RunsAs i bytes (if taken then bytes.length + 1 else bytes.length) s (fun t =>
      t.cpu = { s.cpu with pc := if taken then target else s.cpu.pc } ∧ s.StoresNothing t) := by
  cases taken
  case true => exact .jumps encodes runs
  case false => exact .changesCpuAtOnce encodes runs

/-- A call: an idle M-cycle after the fetches, the push of PC, and the jump. -/
theorem RunsAs.calls (encodes : encode i = bytes) (runs : exec i s = callTo target s) :
    RunsAs i bytes (bytes.length + 3) s (fun t =>
      t.cpu = { s.cpu with pc := target, sp := s.cpu.sp - 2 }
      ∧ s.Pushes s.nextCycle.nextCycle s.cpu.pc t) :=
  .storesTwoAfter 2 encodes (runs.trans (callTo_eq target s))

end

/-! ## The statements -/

/-- Settles O35: every form but `JP HL` is `jumpTo` its target, the relative ones to `PC + e` as an integer sum;
`JP HL` jumps in the M-cycle of its fetch. -/
theorem jumps : Obligations.Jumps := by
  unfold Obligations.Jumps
  intro cc nn e s
  dsimp only
  have jrCond : exec (.jrCond cc e) s = if s.cpu.flags.cond cc then
      jumpTo (BitVec.ofInt 16 ((s.cpu.pc.toNat : Int) + e.toInt)) s else finish s := by
    rw [exec_jrCond, jumpRelativeIf, jumpRelative_eq]
  refine ⟨?_, ?_, ?_, ?_, ?_⟩
  · exact .jumps rfl (exec_jpImm16 nn s)
  · exact .jumpsIf (encode_jpCond cc nn) (exec_jpCond cc nn s)
  · exact .changesCpuAtOnce rfl (exec_jpHL s)
  · exact .jumps rfl ((exec_jrOff e s).trans (jumpRelative_eq e s))
  · exact .jumpsIf (encode_jrCond cc e) jrCond

/-- Settles O36: a call taken, and a restart, is `callTo` its target; a call not taken ends with its fetches. -/
theorem calls : Obligations.Calls := by
  unfold Obligations.Calls
  intro cc nn r s
  dsimp only
  refine ⟨?_, fun taken => ?_, fun notTaken => ?_, ?_⟩
  · exact .calls rfl (exec_callImm16 nn s)
  · have runs : exec (.callCond cc nn) s = callTo nn s := by
      rw [exec_callCond, callIf, if_pos taken]
    exact .calls (encode_callCond cc nn) runs
  · have runs : exec (.callCond cc nn) s = finish s := by
      rw [exec_callCond, callIf, notTaken, if_neg Bool.false_ne_true]
    exact .changesCpuAtOnce (encode_callCond cc nn) runs
  · rw [← rstAddress_eq_eight_mul_code]
    exact .calls (encode_rst r) (exec_rst r s)

end Sys2Proof.Machine
end

section
/-! SUPPORT. What the fetch does (R120, R318): the bytes it reads and the state it leaves. -/

namespace Sys2Proof.Machine

theorem State.nextCycles_withCpu (n : Nat) (s : State) (r : Cpu) :
    State.nextCycle^[n] (s.withCpu r) = (State.nextCycle^[n] s).withCpu r := by
  induction n generalizing s with
  | zero => rfl
  | succ n ih => rw [Function.iterate_succ_apply, State.nextCycle_withCpu, ih, Function.iterate_succ_apply]

/-- Where the first byte after the opcode lies: an armed HALT-bug latch holds PC back by one (R318). -/
def Cpu.operandPc (r : Cpu) : Word := if r.haltBug then r.pc else r.pc + 1

/-- The opcode fetch: the byte at PC; an armed HALT-bug latch is consumed. -/
theorem State.opcodeFetch_eq (s : State) :
    s.opcodeFetch = (s.busRead s.cpu.pc,
      s.withCpu { s.cpu with pc := s.cpu.operandPc, haltBug := false }) := by
  unfold State.opcodeFetch Cpu.operandPc
  split
  · rfl
  · rename_i latch
    have cpu : ({ s.cpu with pc := s.cpu.pc + 1 } : Cpu)
        = { s.cpu with pc := s.cpu.pc + 1, haltBug := false } := by
      rw [← Bool.eq_false_iff.2 latch]
    exact congrArg (fun r => (s.busRead s.cpu.pc, s.withCpu r)) cpu

/-- The state after `n` operand fetches: `n` M-cycles on, PC past the bytes. -/
theorem State.fetchOperands_state (n : Nat) (s : State) :
    (s.fetchOperands n).2
      = (State.nextCycle^[n] s).withCpu { s.cpu with pc := s.cpu.pc + BitVec.ofNat 16 n } := by
  induction n generalizing s with
  | zero =>
    rw [BitVec.add_zero]
    rfl
  | succ n ih =>
    have pc : s.cpu.pc + 1 + BitVec.ofNat 16 n = s.cpu.pc + BitVec.ofNat 16 (n + 1) := by
      rw [BitVec.add_assoc, Nat.add_comm, BitVec.ofNat_add]
      rfl
    simp only [State.fetchOperands, State.fetch8, ih, Function.iterate_succ_apply, State.nextCycles_withCpu,
      pc, State.nextCycle_cpu, State.withCpu_cpu, State.withCpu_withCpu]

/-- The bytes of `n` operand fetches: each read in its own M-cycle, at its own address. -/
theorem State.fetchOperands_bytes (n : Nat) (s : State) :
    (s.fetchOperands n).1 = (List.range n).map fun k =>
      (State.nextCycle^[k + 1] s).busRead (s.cpu.pc + BitVec.ofNat 16 k) := by
  induction n generalizing s with
  | zero => rfl
  | succ n ih =>
    have pc (k : Nat) : s.cpu.pc + 1 + BitVec.ofNat 16 k = s.cpu.pc + BitVec.ofNat 16 (k + 1) := by
      rw [BitVec.add_assoc, Nat.add_comm k, BitVec.ofNat_add]
      rfl
    simp only [State.fetchOperands, State.fetch8, ih, List.range_succ_eq_map, List.map_cons, List.map_map]
    simp only [Function.comp_def, Function.iterate_succ_apply, Function.iterate_zero_apply,
      State.nextCycle_cpu, State.withCpu_cpu, State.nextCycle_withCpu, State.nextCycles_withCpu,
      State.busRead_withCpu, pc, BitVec.add_zero]

/-- The whole fetch, one M-cycle a byte (R120, R318). -/
theorem State.fetchInstr_eq (s : State) :
    let n := operandCount (s.busRead s.cpu.pc)
    s.fetchInstr = (s.busRead s.cpu.pc :: (List.range n).map fun k =>
        (State.nextCycle^[k + 1] s).busRead (s.cpu.operandPc + BitVec.ofNat 16 k),
      (State.nextCycle^[n] s).withCpu
        { s.cpu with pc := s.cpu.operandPc + BitVec.ofNat 16 n, haltBug := false }) := by
  simp only [State.fetchInstr, State.opcodeFetch_eq, State.fetchOperands_bytes, State.fetchOperands_state,
    State.nextCycles_withCpu, State.busRead_withCpu, State.withCpu_cpu, State.withCpu_withCpu]

end Sys2Proof.Machine
end

section
/-! SUPPORT. The invariant of the machine: from the devices inside a tick (Laws/Invariants) and the CPU's
control bits to every state between two steps. -/

namespace Sys2Proof.Machine

/-! ## The CPU's control bits -/

theorem Cpu.Ok.of_calms {q r : Cpu} (h : q.Ok) (calms : q.Calms r) : r.Ok := by
  obtain ⟨counter, haltedOrStopped, haltedOrBug, stoppedOrBug⟩ := h
  refine ⟨?_, fun g => haltedOrStopped ⟨calms.halted g.1, calms.stopped g.2⟩,
    fun g => haltedOrBug ⟨calms.halted g.1, calms.haltBug g.2⟩,
    fun g => stoppedOrBug ⟨calms.stopped g.1, calms.haltBug g.2⟩⟩
  have := calms.counter
  omega

/-- The CPU runs an instruction: neither halted nor stopped, no HALT-bug latch armed, the EI counter in its
range. -/
structure Cpu.Awake (r : Cpu) : Prop where
  halted  : r.halted = false
  stopped : r.stopped = false
  haltBug : r.haltBug = false
  counter : r.eiCounter ≤ 2

theorem Cpu.Awake.of_calms {q r : Cpu} (h : q.Awake) (calms : q.Calms r) : r.Awake where
  halted := Bool.eq_false_iff.2 fun g => absurd (calms.halted g) (by simp [h.halted])
  stopped := Bool.eq_false_iff.2 fun g => absurd (calms.stopped g) (by simp [h.stopped])
  haltBug := Bool.eq_false_iff.2 fun g => absurd (calms.haltBug g) (by simp [h.haltBug])
  counter := by
    have := calms.counter
    have := h.counter
    omega

theorem Cpu.Awake.ok {r : Cpu} (h : r.Awake) : r.Ok :=
  ⟨h.counter, by simp [h.halted], by simp [h.halted], by simp [h.stopped]⟩

theorem Cpu.Awake.stop_ok {r : Cpu} (h : r.Awake) : Cpu.Ok { r with stopped := true } :=
  ⟨h.counter, by simp [h.halted], by simp [h.halted], by simp [h.haltBug]⟩

/-- HALT halts or arms the latch, never both (R291). -/
theorem Cpu.Awake.halt_ok {r : Cpu} (h : r.Awake) (q : Irq) : (r.halt q).Ok := by
  unfold Cpu.halt
  split
  · exact ⟨h.counter, by simp [h.halted], by simp [h.halted], by simp [h.stopped]⟩
  · exact ⟨h.counter, by simp [h.stopped], by simp [h.haltBug], by simp [h.stopped]⟩

/-- The fetch leaves no latch armed, and the other control bits as they were (R318). -/
theorem State.fetchInstr_awake {s : State} (ok : s.cpu.Ok) (halted : s.cpu.halted = false)
    (stopped : s.cpu.stopped = false) : s.fetchInstr.2.cpu.Awake := by
  rw [s.fetchInstr_eq]
  exact ⟨halted, stopped, rfl, ok.1⟩

/-! ## The invariant inside a tick and between two steps -/

/-- What holds of the machine inside a tick, with `C` what holds of the CPU. -/
def State.MidWith (C : Cpu → Prop) (s : State) : Prop := s.Mid ∧ C s.cpu

theorem State.MidWith.keeps {C : Cpu → Prop} (calms : ∀ q r : Cpu, C q → q.Calms r → C r) :
    Keeps (State.MidWith C) where
  regs _ _ h g := ⟨h.1.withCpu _, calms _ _ h.2 g⟩
  write _ _ _ h := ⟨h.1.busWrite _ _, by rw [State.busWrite_cpu]; exact h.2⟩
  cycle _ h := ⟨h.1.endTick.mid.startTick, by rw [State.nextCycle_cpu]; exact h.2⟩

/-- The rest of the tick restores the invariant between two steps. -/
theorem State.Mid.inv_endTick {s : State} (mid : s.Mid) (ok : s.cpu.Ok) : s.endTick.Inv :=
  let ⟨mem, ppu, timer, dma, hdma⟩ := mid.endTick
  ⟨mem, ppu, timer, dma, hdma, by rw [State.endTick_cpu]; exact ok⟩

theorem State.Inv.mid {s : State} (h : s.Inv) : s.Mid :=
  State.DevicesOk.mid ⟨h.mem, h.ppu, h.timer, h.dma, h.hdma⟩

/-- An instruction run by an awake CPU ends in the invariant. -/
theorem exec_inv {i : Instr} {s t : State} (h : s.MidWith Cpu.Awake) (e : exec i s = .next t) : t.Inv := by
  have keeps := State.MidWith.keeps fun _ _ => Cpu.Awake.of_calms
  obtain ⟨u, rfl, ⟨mid, awake⟩ | ⟨v, ⟨mid, awake⟩, rfl⟩ | ⟨v, ⟨mid, awake⟩, rfl⟩⟩ := keeps.exec_next h e
  · exact mid.inv_endTick awake.ok
  · exact (mid.withCpu _).inv_endTick (awake.halt_ok v.irq)
  · exact (mid.withCpu _).inv_endTick awake.stop_ok

/-- Settles O60: a step idles, runs an instruction or takes an interrupt, and each keeps the devices in order
inside a tick; the tick's end restores the invariant. -/
theorem everyStepKeepsTheInvariant : Obligations.EveryStepKeepsTheInvariant := by
  unfold Obligations.EveryStepKeepsTheInvariant
  intro s t inv e
  have keeps := State.MidWith.keeps fun _ _ => Cpu.Ok.of_calms
  have start : s.startTick.MidWith Cpu.Ok := ⟨inv.mid.startTick, by rw [State.startTick_cpu]; exact inv.cpu⟩
  rcases keeps.step_next start e with
    ⟨u, ⟨mid, ok⟩, rfl⟩ | ⟨i, u, hu, halted, stopped, runs⟩ | ⟨i, u, ⟨mid, ok⟩, rfl⟩
  · exact mid.inv_endTick ok
  · exact exec_inv ⟨(keeps.fetchInstr hu).1, State.fetchInstr_awake hu.2 halted stopped⟩ runs
  · exact (mid.withIrq _).inv_endTick ok

/-! ## Reset -/

theorem Cpu.resetWith_awake (p : Params) : (Cpu.resetWith p).Awake := by
  unfold Cpu.resetWith
  split
  · exact ⟨rfl, rfl, rfl, Nat.zero_le _⟩
  · split <;> exact ⟨rfl, rfl, rfl, Nat.zero_le _⟩

/-- The cold reset has the LCD off, the others stand in the first OamScan. -/
theorem Ppu.resetWith_ok (p : Params) : (Ppu.resetWith p).Ok := by
  unfold Ppu.resetWith Ppu.Ok
  cases p.bootImage.isSome <;> decide

/-- Settles O59: no transfer, no reload and no control bit is on after reset, and the PPU stands where its
mode says. -/
theorem invAtReset : Obligations.InvAtReset := by
  unfold Obligations.InvAtReset
  have inv (p : Params) : (State.resetWith p).Inv := {
    mem := Memory.nil_wf
    ppu := Ppu.resetWith_ok p
    timer := ⟨rfl, .inl rfl, fun _ => rfl⟩
    dma := ⟨Nat.zero_le _, nofun, nofun⟩
    hdma := ⟨Nat.le_refl 0x8000, (by decide : 0x8000 < 0xA000), Nat.zero_le _, rfl, Nat.zero_le _, rfl,
      fun h => absurd rfl h, nofun, fun _ => rfl⟩
    cpu := (Cpu.resetWith_awake p).ok }
  exact ⟨inv _, inv⟩

end Sys2Proof.Machine
end

section
/-! SUPPORT. The decoder and the encoder against each other: each form's bytes decode to it, and each byte
string is the encoding of what it decodes to (R120 to R132). -/

namespace Sys2Proof

/-! ## From an instruction to its bytes and back -/

/-- The bytes of `i` decode to `i`, whatever follows them. -/
def Instr.Decodes (i : Instr) : Prop := ∀ rest, decode (encode i ++ rest) = .ok (i, rest)

/-- An instruction with a 16-bit immediate, low byte first (R123). -/
theorem Instr.Decodes.ofWord {f : Word → Instr} {b : Byte} (nn : Word)
    (encodes : encode (f nn) = [b, lowByte nn, highByte nn]) (shape : decodePrimary b = .opNN f) :
    (f nn).Decodes := by
  intro rest
  rw [encodes]
  simp only [List.cons_append, List.nil_append, decode, shape, joinBytes_high_low]

/-- Every form decodes: the operand fields are enumerated, the bytes of an immediate are carried along. -/
theorem Instr.decodes (i : Instr) (complete : i.wf = true) : i.Decodes := by
  revert complete
  induction i using Machine.Instr.byForm
  all_goals intro complete
  case ldReg x y | aluReg x y | rotReg x y | bitReg x y | resReg x y | setReg x y =>
    cases x <;> cases y <;> exact fun _ => rfl
  case ldRegMem x | ldMemReg x | push x | pop x | aluMem x | incReg x | decReg x | addHLPair x | incPair x
      | decPair x | rotMem x | bitMem x | resMem x | setMem x | retCond x | rst x =>
    cases x <;> exact fun _ => rfl
  case ldRegImm x n | aluImm x n | jrCond x n => cases x <;> exact fun _ => rfl
  case ldPair x nn | jpCond x nn | callCond x nn => cases x <;> exact .ofWord nn rfl rfl
  case ldAAtNn nn | ldAtNnA nn | ldAtNnSP nn | jpImm16 nn | callImm16 nn => exact .ofWord nn rfl rfl
  case unassigned i hi =>
    unfold Instr.unassigned at hi
    fin_cases hi <;> exact fun _ => rfl
  case prefixCB => cases complete
  all_goals exact fun _ => rfl

/-- Settles O1, form by form. -/
theorem decodeOfEncode : Obligations.DecodeOfEncode := by
  unfold Obligations.DecodeOfEncode
  exact fun i rest complete => i.decodes complete rest

/-! ## From bytes to an instruction and back -/

/-- What the decoder makes of the first byte `b` is encoded with `b` in front, whatever the immediate. -/
def Shape.EncodesAs (b : Byte) : Shape → Prop
  | .op i => i.wf = true ∧ encode i = [b]
  | .opN f => ∀ n, (f n).wf = true ∧ encode (f n) = [b, n]
  | .opNN f => ∀ nn, (f nn).wf = true ∧ encode (f nn) = [b, lowByte nn, highByte nn]
  | .extended => b = 0xCB

/-- A byte is put together from its fields (R121). -/
theorem opcode_fields (b : Byte) :
    b = opcode (b.extractLsb' 6 2) (b.extractLsb' 3 3) (b.extractLsb' 0 3) := by
  revert b; decide

theorem bits3_cases (v : BitVec 3) :
    v = 0 ∨ v = 1 ∨ v = 2 ∨ v = 3 ∨ v = 4 ∨ v = 5 ∨ v = 6 ∨ v = 7 := by
  revert v; decide

theorem decodeX1_encodes (y z : BitVec 3) :
    (decodeX1 (opcode 1 y z)).wf = true ∧ encode (decodeX1 (opcode 1 y z)) = [opcode 1 y z] := by
  revert y z; decide

theorem decodeX2_encodes (y z : BitVec 3) :
    (decodeX2 (opcode 2 y z)).wf = true ∧ encode (decodeX2 (opcode 2 y z)) = [opcode 2 y z] := by
  revert y z; decide

theorem decodeX0_encodes (y z : BitVec 3) : (decodeX0 (opcode 0 y z)).EncodesAs (opcode 0 y z) := by
  rcases bits3_cases z with rfl | rfl | rfl | rfl | rfl | rfl | rfl | rfl <;>
    rcases bits3_cases y with rfl | rfl | rfl | rfl | rfl | rfl | rfl | rfl <;>
    (try intro n) <;> exact ⟨rfl, rfl⟩

/-- The column `z = 3` holds the 0xCB byte, the one opcode that is no instruction by itself. -/
theorem decodeX3_encodes_column3 (y : BitVec 3) : (decodeX3 (opcode 3 y 3)).EncodesAs (opcode 3 y 3) := by
  rcases bits3_cases y with rfl | rfl | rfl | rfl | rfl | rfl | rfl | rfl
  · exact fun _ => ⟨rfl, rfl⟩
  · rfl
  all_goals exact ⟨rfl, rfl⟩

theorem decodeX3_encodes (y z : BitVec 3) : (decodeX3 (opcode 3 y z)).EncodesAs (opcode 3 y z) := by
  rcases bits3_cases z with rfl | rfl | rfl | rfl | rfl | rfl | rfl | rfl
  case inr.inr.inr.inl => exact decodeX3_encodes_column3 y
  all_goals
    rcases bits3_cases y with rfl | rfl | rfl | rfl | rfl | rfl | rfl | rfl <;>
      (try intro n) <;> exact ⟨rfl, rfl⟩

/-- Quadrant by quadrant (R124). -/
theorem decodePrimary_encodes (b : Byte) : (decodePrimary b).EncodesAs b := by
  have quadrant (x : BitVec 2) (y z : BitVec 3) : fieldX (opcode x y z) = x.toNat := by
    revert x y z; decide
  rw [opcode_fields b]
  generalize b.extractLsb' 6 2 = x, b.extractLsb' 3 3 = y, b.extractLsb' 0 3 = z
  have cases4 : x = 0 ∨ x = 1 ∨ x = 2 ∨ x = 3 := by revert x; decide
  unfold decodePrimary
  rw [quadrant]
  rcases cases4 with rfl | rfl | rfl | rfl
  · exact decodeX0_encodes y z
  · exact decodeX1_encodes y z
  · exact decodeX2_encodes y z
  · exact decodeX3_encodes y z

theorem decodeExtended_encodes (b : Byte) :
    (decodeExtended b).wf = true ∧ encode (decodeExtended b) = [0xCB, b] := by
  revert b; decide

/-- The bytes that the fetch reads, an opcode and as many more as it asks for, are the encoding of one
instruction. -/
theorem decode_of_length {b : Byte} {bs : List Byte} (length : bs.length = operandCount b) (rest : List Byte) :
    ∃ i, decode (b :: bs ++ rest) = .ok (i, rest) ∧ i.wf = true ∧ encode i = b :: bs := by
  have shape := decodePrimary_encodes b
  unfold operandCount at length
  cases e : decodePrimary b <;> rw [e] at shape length <;> dsimp only at length
  case op i =>
    obtain rfl := List.eq_nil_of_length_eq_zero length
    exact ⟨i, by simp [decode, e], shape⟩
  case opN f =>
    obtain ⟨n, rfl⟩ := List.length_eq_one_iff.1 length
    exact ⟨f n, by simp [decode, e], shape n⟩
  case opNN f =>
    obtain ⟨lo, hi, rfl⟩ := List.length_eq_two.1 length
    refine ⟨f (joinBytes hi lo), by simp [decode, e], ?_⟩
    have h := shape (joinBytes hi lo)
    rwa [lowByte_joinBytes, highByte_joinBytes] at h
  case extended =>
    obtain ⟨op2, rfl⟩ := List.length_eq_one_iff.1 length
    obtain rfl : b = 0xCB := shape
    exact ⟨decodeExtended op2, rfl, decodeExtended_encodes op2⟩

theorem operandCount_le (b : Byte) : operandCount b ≤ 2 := by
  unfold operandCount
  split <;> decide

/-- Settles O2: of three bytes, the first and the bytes it asks for are an instruction. -/
theorem everyByteStringIsAnInstruction : Obligations.EveryByteStringIsAnInstruction := by
  unfold Obligations.EveryByteStringIsAnInstruction
  intro b0 b1 b2
  have count := operandCount_le b0
  have length : ([b1, b2].take (operandCount b0)).length = operandCount b0 := by
    rw [List.length_take]
    exact Nat.min_eq_left count
  obtain ⟨i, decodes, complete, encodes⟩ := decode_of_length length ([b1, b2].drop (operandCount b0))
  have all : b0 :: [b1, b2].take (operandCount b0) ++ [b1, b2].drop (operandCount b0) = [b0, b1, b2] := by
    rw [List.cons_append, List.take_append_drop]
  rw [all] at decodes
  exact ⟨i, _, decodes, complete, encodes ▸ all⟩

/-- Settles O3: each word is decoded by computing. -/
theorem sampleWordsDecode : Obligations.SampleWordsDecode := by
  unfold Obligations.SampleWordsDecode
  exact ⟨rfl, rfl, rfl, rfl, rfl, rfl, rfl, rfl, rfl, rfl, rfl, rfl, rfl, rfl⟩

end Sys2Proof
end

section
/-! SUPPORT. A step by what its poll finds and by the CPU's control bits (R310, R316), and with it the statements
about the fetch and the poll. -/

namespace Sys2Proof.Machine

/-! ## The poll -/

/-- The state the poll looks at: where the CPU may act again, the EI counter counted. -/
def State.polled (s : State) : State := s.startTick.withCpu s.cpu.countEi

theorem step_of_unpolled {s : State} (h : s.polled.polledSource = none) : step s = s.polled.runOrIdle := by
  have counted : s.startTick.withCpu s.startTick.cpu.countEi = s.polled := by
    rw [State.startTick_cpu, State.polled]
  unfold step State.iterate
  simp only [counted, h]

theorem step_of_polled {s : State} {i : Fin 5} (h : s.polled.polledSource = some i) :
    step s = if s.polled.wake.cpu.ime then dispatch s.polled.wake i else s.polled.wake.runOrIdle := by
  have counted : s.startTick.withCpu s.startTick.cpu.countEi = s.polled := by
    rw [State.startTick_cpu, State.polled]
  unfold step State.iterate
  simp only [counted, h]

/-- Waking clears HALTED and STOPPED, the latter at the cost of an M-cycle (R310, R322). -/
theorem State.wake_eq (s : State) : s.wake
    = (if s.cpu.stopped then s.nextCycle else s).withCpu { s.cpu with halted := false, stopped := false } := by
  unfold State.wake
  dsimp only
  split
  · simp only [State.nextCycle_withCpu, State.withCpu_withCpu, State.withCpu_cpu]
  · rename_i awake
    have cpu : ({ s.cpu with halted := false } : Cpu) = { s.cpu with halted := false, stopped := false } := by
      rw [← Bool.eq_false_iff.2 awake]
    exact congrArg s.withCpu cpu

@[simp] theorem State.wake_cpu (s : State) :
    s.wake.cpu = { s.cpu with halted := false, stopped := false } := by
  rw [s.wake_eq]
  rfl

theorem State.runOrIdle_of_asleep {s : State} (h : s.cpu.halted = true ∨ s.cpu.stopped = true) :
    s.runOrIdle = finish s := by
  unfold State.runOrIdle
  rw [if_pos (by simpa using h)]

theorem State.runOrIdle_of_awake {s : State} (halted : s.cpu.halted = false) (stopped : s.cpu.stopped = false) :
    s.runOrIdle = s.fetchAndRun := by
  unfold State.runOrIdle
  rw [if_neg (by simp [halted, stopped])]

theorem State.fetchAndRun_of_decode {s : State} {i : Instr} {rest : List Byte}
    (h : decode s.fetchInstr.1 = .ok (i, rest)) : s.fetchAndRun = exec i s.fetchInstr.2 := by
  unfold State.fetchAndRun
  rw [h]

@[simp] theorem Cpu.countEi_pc (r : Cpu) : r.countEi.pc = r.pc := by unfold Cpu.countEi; split <;> rfl
@[simp] theorem Cpu.countEi_sp (r : Cpu) : r.countEi.sp = r.sp := by unfold Cpu.countEi; split <;> rfl
@[simp] theorem Cpu.countEi_halted (r : Cpu) : r.countEi.halted = r.halted := by
  unfold Cpu.countEi; split <;> rfl
@[simp] theorem Cpu.countEi_stopped (r : Cpu) : r.countEi.stopped = r.stopped := by
  unfold Cpu.countEi; split <;> rfl
@[simp] theorem Cpu.countEi_haltBug (r : Cpu) : r.countEi.haltBug = r.haltBug := by
  unfold Cpu.countEi; split <;> rfl

/-! ## The statements about the poll -/

theorem lowestSource_eq_some (p : BitVec 5) (i : Fin 5) : lowestSource p = some i ↔
    p.getLsbD i = true ∧ ∀ j : Fin 5, j < i → ¬ p.getLsbD j = true := by
  revert p i; decide

theorem Irq.pending_getLsbD (q : Irq) (i : Fin 5) :
    q.pending.getLsbD i = (q.ie.getLsbD i && q.flags.getLsbD i) := by
  simp [Irq.pending, i.isLt]

/-- Settles O10. -/
theorem pollFindsTheLowestSource : Obligations.PollFindsTheLowestSource := by
  unfold Obligations.PollFindsTheLowestSource
  intro s i
  unfold State.polledSource
  split
  · rename_i frozen
    simp [frozen]
  · rename_i acts
    simp only [lowestSource_eq_some, Irq.pending_getLsbD, Bool.and_eq_true, Bool.eq_false_iff.2 acts, true_and]

/-- Settles O4. -/
theorem stepRunsTheDecodedInstruction : Obligations.StepRunsTheDecodedInstruction := by
  unfold Obligations.StepRunsTheDecodedInstruction
  intro s i rest s1 unpolled halted stopped decodes
  have run : step s = s1.runOrIdle := step_of_unpolled unpolled
  rw [run, State.runOrIdle_of_awake halted stopped, State.fetchAndRun_of_decode decodes]

/-- Settles O13. -/
theorem wakeWithoutIme : Obligations.WakeWithoutIme := by
  unfold Obligations.WakeWithoutIme
  intro s i j rest s1 w polled ime decodes
  have stopped : s1.cpu.stopped = s.cpu.stopped := s.cpu.countEi_stopped
  have wake : s1.wake = w := by
    rw [s1.wake_eq, stopped]
  have run : step s = if s1.wake.cpu.ime then dispatch s1.wake j else s1.wake.runOrIdle := step_of_polled polled
  rw [run, if_neg (by simp [ime]), wake, State.runOrIdle_of_awake rfl rfl, State.fetchAndRun_of_decode decodes]

theorem State.polled_frame (s : State) : s.Frame s.polled := s.startTick_frame.withCpu _

@[simp] theorem State.polled_params (s : State) : s.polled.params = s.params := s.startTick_params

/-- The rest of a tick, device by device (R370). -/
theorem State.endTick_eq (s : State) :
    let d := s.dmaStep.hdmaStep.ppuStep.timerStep
    s.endTick = (d.withCalls (if s.params.audioStepped then .audioStep d.elapsedCycles 4 :: d.calls
      else d.calls)).withElapsed (d.elapsedCycles + 4) := by
  have frame : s.Frame s.dmaStep.hdmaStep.ppuStep.timerStep :=
    ((s.dmaStep_frame.trans (State.hdmaStep_frame _)).trans (State.ppuStep_frame _)).trans
      (State.timerStep_frame _)
  have params : s.dmaStep.hdmaStep.ppuStep.timerStep.params = s.params := congrArg Settings.params frame.settings
  rw [← params]
  rfl

/-- Settles O9: the CPU idles, so the step is the rest of the tick. -/
theorem idleWhileHalted : Obligations.IdleWhileHalted := by
  unfold Obligations.IdleWhileHalted
  intro s s1 d asleep unpolled
  have run : step s = s1.runOrIdle := step_of_unpolled unpolled
  rw [State.runOrIdle_of_asleep (by simpa [s1] using asleep)] at run
  have devices := s1.endTick_eq
  rw [show s1.params = s.params from s.polled_params] at devices
  refine ⟨s1.endTick, run, devices, s1.endTick_cpu, (s.polled_frame.trans s1.endTick_frame).stores, fun never => ?_⟩
  rw [State.endTick_elapsed]
  exact congrArg (· + 4) (State.startTick_elapsed never)

theorem State.wake_of_awake {s : State} (halted : s.cpu.halted = false) (stopped : s.cpu.stopped = false) :
    s.wake = s := by
  have cpu (r : Cpu) : r.halted = false → r.stopped = false →
      r = { r with halted := false, stopped := false } := by
    rintro h g
    cases r
    cases h
    cases g
    rfl
  rw [s.wake_eq, stopped, if_neg Bool.false_ne_true, State.withCpu_of_cpu_eq (cpu _ halted stopped)]

/-! ## The dispatch -/

/-- The five M-cycles of a dispatch but for the devices' part of the last (R314). -/
theorem State.takeInterrupt_eq (s : State) (i : Fin 5) :
    let m3 := s.nextCycle.nextCycle.busWrite (s.cpu.sp - 1) (highByte s.cpu.pc)
    let m4 := m3.nextCycle.busWrite (s.cpu.sp - 2) (lowByte s.cpu.pc)
    s.takeInterrupt i = (m4.nextCycle.withCpu
      { s.cpu with sp := s.cpu.sp - 2, ime := false, pc := serviceAddress i }).clear i := by
  simp only [State.takeInterrupt, State.push16_eq, State.nextCycle_cpu, State.nextCycle_withCpu,
    State.withCpu_cpu, State.withCpu_withCpu]

/-- Settles O14. With the counter at 2 the poll leaves IME clear, and a source it finds wakes nothing in a CPU
that is awake; with it at 1 the poll sets IME first. -/
theorem eiDelay : Obligations.EiDelay := by
  unfold Obligations.EiDelay
  intro s halted stopped
  refine ⟨fun i rest => ?_, fun j counter polled => ?_⟩
  · intro s1 counter ime decodes
    have counted : s.cpu.countEi = { s.cpu with eiCounter := 1 } := by
      simp [Cpu.countEi, counter, ime]
    have at_poll : s.polled = s1 := by rw [State.polled, counted]
    have run : s1.runOrIdle = exec i s1.fetchInstr.2 := by
      rw [State.runOrIdle_of_awake (s := s1) halted stopped, State.fetchAndRun_of_decode decodes]
    have wake : s1.wake = s1 := State.wake_of_awake halted stopped
    cases source : s1.polledSource with
    | none => rw [step_of_unpolled (at_poll ▸ source), at_poll, run]
    | some j =>
      have masked : s1.cpu.ime = false := ime
      rw [step_of_polled (at_poll ▸ source), at_poll, wake, masked, if_neg Bool.false_ne_true, run]
  · have counted : s.cpu.countEi = { s.cpu with eiCounter := 0, ime := true } := by
      simp [Cpu.countEi, counter]
    have at_poll : s.polled = s.startTick.withCpu { s.cpu with eiCounter := 0, ime := true } := by
      rw [State.polled, counted]
    have wake : s.polled.wake = s.polled := by
      rw [at_poll]
      exact State.wake_of_awake halted stopped
    have ime : s.polled.cpu.ime = true := by rw [at_poll]; rfl
    have run := step_of_polled (s := s) (i := j) polled
    rw [wake, if_pos ime] at run
    refine ⟨_, run, ?_⟩
    rw [State.endTick_cpu, State.takeInterrupt_eq, at_poll]
    rfl

/-- Settles O11. -/
theorem dispatchSequence : Obligations.DispatchSequence := by
  unfold Obligations.DispatchSequence
  intro s i s1 r m1 m3 m4 m5 polled ime
  have run : step s = if s1.wake.cpu.ime then dispatch s1.wake i else s1.wake.runOrIdle := step_of_polled polled
  have wake : s1.wake = m1.withCpu r := by
    have stopped : s1.cpu.stopped = s.cpu.stopped := s.cpu.countEi_stopped
    rw [s1.wake_eq, stopped]
  rw [run, if_pos (by simpa using ime), wake, dispatch, finish, State.takeInterrupt_eq]
  have sp : r.sp = s.cpu.sp := s.cpu.countEi_sp
  have pc : r.pc = s.cpu.pc := s.cpu.countEi_pc
  simp only [State.withCpu_cpu, State.nextCycle_withCpu, State.busWrite_withCpu, State.withCpu_withCpu, sp, pc]
  rfl

end Sys2Proof.Machine
end

section
/-! SUPPORT. The bus, region by region (spec/20_memory.md): where an address goes, what a read or write of it
does, and which addresses share a byte. -/

namespace Sys2Proof.Machine

/-! ## The routing table, row by row (R71) -/

section
variable {s : State} {a : Word}

theorem State.route_rom (h : a.toNat < 0x8000) : s.route a = .rom := by
  unfold State.route; dsimp only
  rw [if_pos h]

theorem State.route_vram (h1 : 0x8000 ≤ a.toNat) (h2 : a.toNat < 0xA000) :
    s.route a = .vram (vramCell s.vramBank a.toNat) := by
  unfold State.route; dsimp only
  rw [if_neg (by omega), if_pos h2]

theorem State.route_cartRam (h1 : 0xA000 ≤ a.toNat) (h2 : a.toNat < 0xC000) : s.route a = .cartRam := by
  unfold State.route; dsimp only
  rw [if_neg (by omega), if_neg (by omega), if_pos h2]

theorem State.route_wram (h1 : 0xC000 ≤ a.toNat) (h2 : a.toNat < 0xFE00) :
    s.route a = .wram (wramCell s.wramBank (a.toNat % 0x2000)) := by
  unfold State.route; dsimp only
  rw [if_neg (by omega), if_neg (by omega), if_neg (by omega), if_pos h2]

theorem State.route_oam (h1 : 0xFE00 ≤ a.toNat) (h2 : a.toNat < 0xFEA0) : s.route a = .oam a.toNat := by
  unfold State.route; dsimp only
  rw [if_neg (by omega), if_neg (by omega), if_neg (by omega), if_neg (by omega), if_pos h2]

theorem State.route_gap (h1 : 0xFEA0 ≤ a.toNat) (h2 : a.toNat < 0xFF00) : s.route a = .gap := by
  unfold State.route; dsimp only
  rw [if_neg (by omega), if_neg (by omega), if_neg (by omega), if_neg (by omega), if_neg (by omega), if_pos h2]

theorem State.route_io (h1 : 0xFF00 ≤ a.toNat) (h2 : a.toNat < 0xFF80) : s.route a = .io := by
  unfold State.route; dsimp only
  rw [if_neg (by omega), if_neg (by omega), if_neg (by omega), if_neg (by omega), if_neg (by omega),
    if_neg (by omega), if_pos h2]

theorem State.route_hram (h1 : 0xFF80 ≤ a.toNat) (h2 : a.toNat < 0xFFFF) : s.route a = .hram a.toNat := by
  unfold State.route; dsimp only
  rw [if_neg (by omega), if_neg (by omega), if_neg (by omega), if_neg (by omega), if_neg (by omega),
    if_neg (by omega), if_neg (by omega), if_pos h2]

theorem State.route_ie (h : a.toNat = 0xFFFF) : s.route a = .ie := by
  unfold State.route; dsimp only
  rw [h]
  rfl

/-! ## An access by where it goes -/

/-- The cell of memory an address reaches, blocked or not. -/
def State.routedCell (s : State) (a : Word) : Option Nat :=
  match s.route a with
  | .vram k | .wram k | .oam k | .hram k => some k
  | .rom | .cartRam | .gap | .io | .ie => none

theorem State.writtenCell_eq_some {k : Nat} :
    s.writtenCell a = some k ↔ s.blocked a = false ∧ s.routedCell a = some k := by
  unfold State.writtenCell
  cases s.blocked a
  case true => simp
  case false =>
    simp only [Bool.false_eq_true, if_false, true_and]
    rfl

/-- A write that reaches a cell stores the byte there and does nothing else. -/
theorem State.busWrite_cell {k : Nat} (h : s.writtenCell a = some k) (v : Byte) :
    s.busWrite a v = s.withMem (s.mem.write k v) := by
  obtain ⟨open_, cell⟩ := State.writtenCell_eq_some.1 h
  unfold State.routedCell at cell
  unfold State.busWrite State.rawWrite
  rw [open_, if_neg Bool.false_ne_true]
  cases route : s.route a <;> rw [route] at cell <;> cases cell <;> rfl

/-- A read of an address that reaches a cell, where it is not blocked. -/
theorem State.busRead_cell {k : Nat} (h : s.writtenCell a = some k) : s.busRead a = s.mem.read k := by
  obtain ⟨open_, cell⟩ := State.writtenCell_eq_some.1 h
  unfold State.routedCell at cell
  unfold State.busRead State.rawRead
  rw [open_, if_neg Bool.false_ne_true]
  cases route : s.route a <;> rw [route] at cell <;> cases cell <;> rfl

theorem State.busRead_blocked (h : s.blocked a = true) : s.busRead a = 0xFF := by
  unfold State.busRead
  rw [if_pos h]

theorem State.busWrite_blocked (h : s.blocked a = true) (v : Byte) : s.busWrite a v = s := by
  unfold State.busWrite
  rw [if_pos h]

/-! ## Which addresses share a cell -/

theorem State.vramBank_le (s : State) : s.vramBank ≤ 1 := by
  have := s.io.vbk.isLt
  unfold State.vramBank
  split <;> omega

theorem State.wramBank_range (s : State) : 1 ≤ s.wramBank ∧ s.wramBank ≤ 7 := by
  have := s.io.svbk.isLt
  unfold State.wramBank
  split
  · rename_i h
    simp only [Bool.and_eq_true, bne_iff_ne] at h
    have : s.io.svbk.toNat ≠ 0 := fun z => h.2 (BitVec.eq_of_toNat_eq z)
    omega
  · omega

/-- The cell an address reaches, as a number (log 22). -/
theorem State.routedCell_eq_some {k : Nat} : s.routedCell a = some k ↔
    (0x8000 ≤ a.toNat ∧ a.toNat < 0xA000 ∧ k = vramCell s.vramBank a.toNat)
    ∨ (0xC000 ≤ a.toNat ∧ a.toNat < 0xFE00 ∧ k = wramCell s.wramBank (a.toNat % 0x2000))
    ∨ ((0xFE00 ≤ a.toNat ∧ a.toNat < 0xFEA0 ∨ 0xFF80 ≤ a.toNat ∧ a.toNat < 0xFFFF) ∧ k = a.toNat) := by
  have lt := a.isLt
  unfold State.routedCell State.route
  dsimp only
  split_ifs <;> simp <;> omega

/-- One cell under two addresses: working RAM and its mirror (R82). -/
theorem State.routedCell_shared {b : Word} {k : Nat} (h : s.routedCell a = some k) :
    s.routedCell b = some k ↔
      b = a ∨ (0xC000 ≤ a.toNat ∧ a.toNat < 0xDE00 ∧ b.toNat = a.toNat + 0x2000)
        ∨ (0xC000 ≤ b.toNat ∧ b.toNat < 0xDE00 ∧ a.toNat = b.toNat + 0x2000) := by
  have vram := s.vramBank_le
  have wram := s.wramBank_range
  rw [State.routedCell_eq_some] at h ⊢
  rw [BitVec.toNat_eq]
  unfold vramCell wramCell at *
  split at h <;> split <;> omega

theorem State.blocked_wram (h1 : 0xC000 ≤ a.toNat) (h2 : a.toNat < 0xFE00) : s.blocked a = false := by
  unfold State.blocked
  rw [State.route_wram h1 h2]

/-- ROM lies below every cell that a write can reach. -/
theorem State.le_routedCell {k : Nat} (h : s.routedCell a = some k) : 0x8000 ≤ k := by
  rw [State.routedCell_eq_some] at h
  unfold vramCell wramCell at h
  split at h <;> omega

theorem State.lt_of_route_rom (h : s.route a = .rom) : a.toNat < 0x8000 := by
  unfold State.route at h
  dsimp only at h
  split_ifs at h
  assumption

theorem State.romRead_withMem {m : Memory} (h : m.read a.toNat = s.mem.read a.toNat) :
    (s.withMem m).romRead a = s.romRead a := by
  unfold State.romRead
  rw [State.withMem_mem, h]
  rfl

/-- A read looks at one cell of memory, at a register or at nothing stored. -/
theorem State.busRead_withMem {m : Memory} (cell : ∀ j, s.writtenCell a = some j → m.read j = s.mem.read j)
    (rom : a.toNat < 0x8000 → m.read a.toNat = s.mem.read a.toNat) :
    (s.withMem m).busRead a = s.busRead a := by
  cases blocked : s.blocked a
  case true =>
    rw [State.busRead_blocked blocked]
    exact State.busRead_blocked (s := s.withMem m) blocked
  case false =>
    have reaches {j : Nat} (h : s.routedCell a = some j) : (s.withMem m).busRead a = s.busRead a := by
      have written := State.writtenCell_eq_some.2 ⟨blocked, h⟩
      rw [State.busRead_cell written, State.busRead_cell (s := s.withMem m) written]
      exact cell j written
    unfold State.routedCell at reaches
    cases route : s.route a <;> rw [route] at reaches
    case vram | wram | oam | hram => exact reaches rfl
    all_goals
      unfold State.busRead State.rawRead
      rw [show (s.withMem m).blocked a = s.blocked a from rfl, show (s.withMem m).route a = s.route a from rfl,
        blocked, route]
    case rom => exact State.romRead_withMem (rom (State.lt_of_route_rom route))
    case io =>
      dsimp only
      rw [State.withMem_params]
      cases ioRegAt s.params.enhanced a
      case none => rfl
      case some r => cases r <;> rfl
    all_goals rfl

/-- Settles O44. -/
theorem addressesShareNoByte : Obligations.AddressesShareNoByte := by
  unfold Obligations.AddressesShareNoByte
  intro s a b v k written
  obtain ⟨open_, cell⟩ := State.writtenCell_eq_some.1 written
  refine ⟨?_, fun other notRegister => ?_⟩
  · rw [State.writtenCell_eq_some, State.routedCell_shared cell]
    refine and_iff_right_of_imp ?_
    rintro (rfl | ⟨h1, h2, e⟩ | ⟨h1, h2, e⟩)
    · exact open_
    · exact State.blocked_wram (by omega) (by omega)
    · exact State.blocked_wram (by omega) (by omega)
  · have low := State.le_routedCell cell
    rw [State.busWrite_cell written]
    refine State.busRead_withMem (fun j hj => ?_) (fun rom => ?_)
    · exact Memory.read_write_other _ _ fun e => other (e ▸ hj)
    · exact Memory.read_write_other _ _ (by omega)

end

/-! ## The regions -/

theorem State.vramBlocked_iff (s : State) :
    s.vramBlocked = true ↔ s.ppu.mode = .pixelTransfer ∧ s.ppu.lcdc.getLsbD 7 = true := by
  simp [State.vramBlocked, Ppu.lcdOn]

theorem State.oamBlocked_iff (s : State) : s.oamBlocked = true ↔
    s.ppu.mode = .oamScan ∨ s.ppu.mode = .pixelTransfer ∨ s.dma.state = .running ∨ s.dma.shadow = .running := by
  simp [State.oamBlocked, State.dmaBlocksOam, or_assoc]

section
variable {s : State} {a : Word}

theorem State.blocked_vram (h1 : 0x8000 ≤ a.toNat) (h2 : a.toNat < 0xA000) : s.blocked a = s.vramBlocked := by
  unfold State.blocked
  rw [State.route_vram h1 h2]

theorem State.blocked_oam (h1 : 0xFE00 ≤ a.toNat) (h2 : a.toNat < 0xFEA0) : s.blocked a = s.oamBlocked := by
  unfold State.blocked
  rw [State.route_oam h1 h2]

theorem State.blocked_hram (h1 : 0xFF80 ≤ a.toNat) (h2 : a.toNat < 0xFFFF) : s.blocked a = false := by
  unfold State.blocked
  rw [State.route_hram h1 h2]

/-- The regions whose reads look at one cell, each where it is not blocked. -/
theorem State.writtenCell_vram (h1 : 0x8000 ≤ a.toNat) (h2 : a.toNat < 0xA000) (h : s.vramBlocked = false) :
    s.writtenCell a = some (vramCell s.vramBank a.toNat) := by
  rw [State.writtenCell_eq_some, State.blocked_vram h1 h2, State.routedCell_eq_some]
  exact ⟨h, .inl ⟨h1, h2, rfl⟩⟩

theorem State.writtenCell_wram (h1 : 0xC000 ≤ a.toNat) (h2 : a.toNat < 0xFE00) :
    s.writtenCell a = some (wramCell s.wramBank (a.toNat % 0x2000)) := by
  rw [State.writtenCell_eq_some, State.routedCell_eq_some]
  exact ⟨State.blocked_wram h1 h2, .inr (.inl ⟨h1, h2, rfl⟩)⟩

theorem State.writtenCell_oam (h1 : 0xFE00 ≤ a.toNat) (h2 : a.toNat < 0xFEA0) (h : s.oamBlocked = false) :
    s.writtenCell a = some a.toNat := by
  rw [State.writtenCell_eq_some, State.blocked_oam h1 h2, State.routedCell_eq_some]
  exact ⟨h, .inr (.inr ⟨.inl ⟨h1, h2⟩, rfl⟩)⟩

theorem State.writtenCell_hram (h1 : 0xFF80 ≤ a.toNat) (h2 : a.toNat < 0xFFFF) :
    s.writtenCell a = some a.toNat := by
  rw [State.writtenCell_eq_some, State.routedCell_eq_some]
  exact ⟨State.blocked_hram h1 h2, .inr (.inr ⟨.inr ⟨h1, h2⟩, rfl⟩)⟩

/-! An access outside memory, by where it goes. -/

theorem State.busRead_rom (h : a.toNat < 0x8000) : s.busRead a = s.romRead a := by
  unfold State.busRead State.blocked State.rawRead
  rw [State.route_rom h]
  rfl

theorem State.busRead_cartRam (h1 : 0xA000 ≤ a.toNat) (h2 : a.toNat < 0xC000) : s.busRead a = 0xFF := by
  unfold State.busRead State.blocked State.rawRead
  rw [State.route_cartRam h1 h2]
  rfl

theorem State.busRead_gap (h1 : 0xFEA0 ≤ a.toNat) (h2 : a.toNat < 0xFF00) : s.busRead a = 0xFF := by
  unfold State.busRead State.blocked State.rawRead
  rw [State.route_gap h1 h2]
  rfl

theorem State.busRead_ie (h : a.toNat = 0xFFFF) : s.busRead a = s.irq.ie := by
  unfold State.busRead State.blocked State.rawRead
  rw [State.route_ie h]
  rfl

theorem State.busWrite_rom (h : a.toNat < 0x8000) (v : Byte) : s.busWrite a v = s.record (.romWrite a v) := by
  unfold State.busWrite State.blocked State.rawWrite
  rw [State.route_rom h]
  rfl

theorem State.busWrite_cartRam (h1 : 0xA000 ≤ a.toNat) (h2 : a.toNat < 0xC000) (v : Byte) :
    s.busWrite a v = s.record (.cartRamWrite a v) := by
  unfold State.busWrite State.blocked State.rawWrite
  rw [State.route_cartRam h1 h2]
  rfl

theorem State.busWrite_gap (h1 : 0xFEA0 ≤ a.toNat) (h2 : a.toNat < 0xFF00) (v : Byte) : s.busWrite a v = s := by
  unfold State.busWrite State.blocked State.rawWrite
  rw [State.route_gap h1 h2]
  rfl

theorem State.busWrite_ie (h : a.toNat = 0xFFFF) (v : Byte) :
    s.busWrite a v = s.withIrq { s.irq with ie := v } := by
  unfold State.busWrite State.blocked State.rawWrite
  rw [State.route_ie h]
  rfl

/-! ## The I/O registers (R66, R90, R97) -/

theorem State.busRead_io (h1 : 0xFF00 ≤ a.toNat) (h2 : a.toNat < 0xFF80) : s.busRead a =
    match ioRegAt s.params.enhanced a with
    | some r => s.ioRead .cpu r
    | none => 0xFF := by
  unfold State.busRead State.blocked State.rawRead
  rw [State.route_io h1 h2]
  rfl

theorem State.busWrite_io (h1 : 0xFF00 ≤ a.toNat) (h2 : a.toNat < 0xFF80) (v : Byte) : s.busWrite a v =
    match ioRegAt s.params.enhanced a with
    | some r => s.ioWrite r v
    | none => s := by
  unfold State.busWrite State.blocked State.rawWrite
  rw [State.route_io h1 h2]
  rfl

end

/-- The I/O addresses that nothing decodes (R97). -/
def Undecoded (enhanced : Bool) (n : Nat) : Prop :=
  n = 0xFF03 ∨ 0xFF08 ≤ n ∧ n ≤ 0xFF0E ∨ 0xFF4C ≤ n ∧ n ≤ 0xFF4E ∨ 0xFF56 ≤ n ∧ n ≤ 0xFF6F
    ∨ 0xFF71 ≤ n ∧ n ≤ 0xFF7F
    ∨ enhanced = false ∧ (n = 0xFF4F ∨ 0xFF51 ≤ n ∧ n ≤ 0xFF55 ∨ n = 0xFF70)

theorem Undecoded.range {enhanced : Bool} {n : Nat} (h : Undecoded enhanced n) : 0xFF00 ≤ n ∧ n < 0xFF80 := by
  unfold Undecoded at h
  omega

theorem Undecoded.ioRegAt {enhanced : Bool} {a : Word} (h : Undecoded enhanced a.toNat) :
    ioRegAt enhanced a = none := by
  have table : ∀ (e : Bool) (i : Fin 128), Undecoded e (0xFF00 + i.val) →
      Machine.ioRegAt e (BitVec.ofNat 16 (0xFF00 + i.val)) = none := by
    unfold Undecoded
    decide
  have range := h.range
  have address : 0xFF00 + (a.toNat - 0xFF00) = a.toNat := by omega
  have at_index := table enhanced ⟨a.toNat - 0xFF00, by omega⟩
  simp only [address, BitVec.ofNat_toNat, BitVec.setWidth_eq] at at_index
  exact at_index h

end Sys2Proof.Machine
end

section
/-! SUPPORT. The statements about the bus: the regions, and the I/O registers by their row in R66. -/

namespace Sys2Proof.Machine

/-! ## The regions -/

/-- The overlay's range, as R75 gives it. -/
theorem inOverlay_iff (enhanced : Bool) (n : Nat) :
    inOverlay enhanced n = true ↔ n < 0x100 ∨ enhanced = true ∧ 0x200 ≤ n ∧ n < 0x900 := by
  simp [inOverlay, and_assoc]

theorem State.romRead_of_not_overlay {s : State} {a : Word}
    (h : ¬ (s.io.bootActive = true ∧ inOverlay s.params.enhanced a.toNat = true)) :
    s.romRead a = s.mem.read a.toNat := by
  unfold State.romRead
  rw [if_neg (by simpa using h)]

theorem State.romRead_of_overlay {s : State} {a : Word} {image : List Byte} {v : Byte}
    (active : s.io.bootActive = true) (range : inOverlay s.params.enhanced a.toNat = true)
    (boot : s.params.bootImage = some image) (byte : image[a.toNat]? = some v) : s.romRead a = v := by
  unfold State.romRead
  rw [if_pos (by simp [active, range]), boot]
  simp only [byte]

/-- The video-memory cell in the words of R80. -/
theorem State.vramCell_eq (s : State) {n : Nat} (h1 : 0x8000 ≤ n) (h2 : n < 0xA000) :
    vramCell s.vramBank n = if s.params.enhanced = true ∧ s.io.vbk = 1 then 0x10000 + n else n := by
  have bits : ∀ v : BitVec 1, v.toNat = if v = 1 then 1 else 0 := by decide
  unfold vramCell State.vramBank
  rw [bits]
  split_ifs <;> first | omega | tauto

/-- Settles O42, region by region. -/
theorem readsByRegion : Obligations.ReadsByRegion := by
  unfold Obligations.ReadsByRegion
  intro s a n m vramBlocked oamBlocked off bank overlay
  have overlay_iff : overlay ↔ s.io.bootActive = true ∧ inOverlay s.params.enhanced n = true := by
    rw [inOverlay_iff]
  have bank_eq : bank = s.wramBank := by
    simp [bank, State.wramBank]
  have wram (h1 : 0xC000 ≤ n) (h2 : n < 0xFE00) : s.busRead a = m (wramCell s.wramBank off) :=
    State.busRead_cell (State.writtenCell_wram h1 h2)
  refine ⟨fun h outside => ?_, fun inside image v boot byte => ?_, fun h1 h2 blocked => ?_,
    fun h1 h2 open_ => ?_, fun h1 h2 => ?_, fun h1 h2 low => ?_, fun h1 h2 high => ?_,
    fun h1 h2 blocked => ?_, fun h1 h2 open_ => ?_, fun h1 h2 => ?_, fun undecoded => ?_, fun h1 h2 => ?_,
    fun h => ?_⟩
  · rw [State.busRead_rom h]
    exact State.romRead_of_not_overlay (overlay_iff.not.1 outside)
  · obtain ⟨active, range⟩ := overlay_iff.1 inside
    have h : n < 0x8000 := by
      have := (inOverlay_iff _ _).1 range
      omega
    rw [State.busRead_rom h]
    exact State.romRead_of_overlay active range boot byte
  · exact State.busRead_blocked ((State.blocked_vram h1 h2).trans (s.vramBlocked_iff.2 blocked))
  · rw [← s.vramCell_eq h1 h2]
    exact State.busRead_cell (State.writtenCell_vram h1 h2 (Bool.eq_false_iff.2 (s.vramBlocked_iff.not.2 open_)))
  · exact State.busRead_cartRam h1 h2
  · rw [wram h1 h2, wramCell, if_pos low]
  · rw [wram h1 h2, wramCell, if_neg (by omega), bank_eq]
  · exact State.busRead_blocked ((State.blocked_oam h1 h2).trans (s.oamBlocked_iff.2 blocked))
  · exact State.busRead_cell (State.writtenCell_oam h1 h2 (Bool.eq_false_iff.2 (s.oamBlocked_iff.not.2 open_)))
  · exact State.busRead_gap h1 h2
  · have range := Undecoded.range undecoded
    rw [State.busRead_io range.1 range.2, Undecoded.ioRegAt undecoded]
  · exact State.busRead_cell (State.writtenCell_hram h1 h2)
  · exact State.busRead_ie h

/-- Settles O43, region by region. -/
theorem writesByRegion : Obligations.WritesByRegion := by
  unfold Obligations.WritesByRegion
  intro s a v n
  refine ⟨fun h => State.busWrite_rom h v, fun h1 h2 => State.busWrite_cartRam h1 h2 v,
    fun h1 h2 blocked => State.busWrite_blocked ((State.blocked_vram h1 h2).trans blocked) v,
    fun h1 h2 blocked => State.busWrite_blocked ((State.blocked_oam h1 h2).trans blocked) v,
    fun h1 h2 => State.busWrite_gap h1 h2 v, fun undecoded => ?_, fun h => State.busWrite_ie h v,
    fun memory => ?_⟩
  · have range := Undecoded.range undecoded
    rw [State.busWrite_io range.1 range.2, Undecoded.ioRegAt undecoded]
  · obtain ⟨k, cell⟩ : ∃ k, s.writtenCell a = some k := by
      rcases memory with ⟨h1, h2, open_⟩ | ⟨h1, h2⟩ | ⟨h1, h2, open_⟩ | ⟨h1, h2⟩
      · exact ⟨_, State.writtenCell_vram h1 h2 open_⟩
      · exact ⟨_, State.writtenCell_wram h1 h2⟩
      · exact ⟨_, State.writtenCell_oam h1 h2 open_⟩
      · exact ⟨_, State.writtenCell_hram h1 h2⟩
    refine ⟨k, cell, State.busWrite_cell cell v, fun canonical => ?_⟩
    rw [State.busWrite_cell cell, State.busRead_cell (s := s.withMem (s.mem.write k v)) cell]
    exact Memory.read_write_self canonical k v

/-! ## The I/O registers -/

/-- Each row of the table is the register decoded at its address. -/
theorem ioRegAt_of_mem : ∀ row ∈ ioMap, ∀ enhanced : Bool, (row.2.2 = true → enhanced = true) →
    ioRegAt enhanced (BitVec.ofNat 16 row.1) = some row.2.1 := by
  decide

theorem ioMap_range : ∀ row ∈ ioMap, 0xFF00 ≤ row.1 ∧ row.1 < 0xFF80 := by
  decide

/-- A read of the register at an address of the table. -/
theorem State.busRead_reg (s : State) {n : Nat} {r : IoReg} {extra : Bool} (row : (n, r, extra) ∈ ioMap)
    (decoded : extra = true → s.params.enhanced = true) : s.busRead (BitVec.ofNat 16 n) = s.ioRead .cpu r := by
  have range := ioMap_range _ row
  have address : (BitVec.ofNat 16 n).toNat = n := by
    rw [BitVec.toNat_ofNat]
    exact Nat.mod_eq_of_lt (by omega)
  rw [State.busRead_io (by omega) (by omega), ioRegAt_of_mem _ row _ decoded]

theorem State.busWrite_reg (s : State) (v : Byte) {n : Nat} {r : IoReg} {extra : Bool}
    (row : (n, r, extra) ∈ ioMap) (decoded : extra = true → s.params.enhanced = true) :
    s.busWrite (BitVec.ofNat 16 n) v = s.ioWrite r v := by
  have range := ioMap_range _ row
  have address : (BitVec.ofNat 16 n).toNat = n := by
    rw [BitVec.toNat_ofNat]
    exact Nat.mod_eq_of_lt (by omega)
  rw [State.busWrite_io (by omega) (by omega), ioRegAt_of_mem _ row _ decoded]

/-! ### The bytes that are put together from bits -/

theorem IoLatches.p1_eq (l : IoLatches) :
    l.p1 = (0xC0 : Byte) ||| (l.joySelect.setWidth 8 <<< 4)
      ||| ((0xF : BitVec 4) ^^^ (if l.joySelect.getLsbD 0 then 0 else l.keysDpad)
        ^^^ (if l.joySelect.getLsbD 1 then 0 else l.keysBtn)).setWidth 8 := by
  have join : ∀ (j : BitVec 2) (low : BitVec 4),
      0b11#2 ++ j ++ low = (0xC0 : Byte) ||| (j.setWidth 8 <<< 4) ||| low.setWidth 8 := by decide
  unfold IoLatches.p1
  rw [← join]
  cases l.joySelect.getLsbD 0 <;> cases l.joySelect.getLsbD 1 <;> simp

/-- The two mode bits of STAT (R46). -/
def Mode.bits : Mode → BitVec 2
  | .hblank => 0
  | .vblank => 1
  | .oamScan => 2
  | .pixelTransfer => 3

theorem Ppu.stat_eq (p : Ppu) :
    p.stat = (0x80 : Byte) ||| (p.statEn.setWidth 8 <<< 3) ||| (if p.ly = p.lyc then 4 else 0)
      ||| p.mode.bits.setWidth 8 := by
  have join : ∀ (e : BitVec 4) (eq : Bool) (m : BitVec 2), 1#1 ++ e ++ BitVec.ofBool eq ++ m
      = (0x80 : Byte) ||| (e.setWidth 8 <<< 3) ||| (if eq = true then 4 else 0) ||| m.setWidth 8 := by decide
  have bits : p.stat = 1#1 ++ p.statEn ++ BitVec.ofBool (p.ly == p.lyc) ++ p.mode.bits := rfl
  rw [bits, join]
  simp only [beq_iff_eq]

theorem ones_append_three (v : BitVec 3) : 0b11111#5 ++ v = 0xF8 ||| v.setWidth 8 := by
  revert v; decide

theorem ones_append_five (v : BitVec 5) : 0b111#3 ++ v = 0xE0 ||| v.setWidth 8 := by
  revert v; decide

theorem ones_append_one (v : BitVec 1) : 0b1111111#7 ++ v = 0xFE ||| v.setWidth 8 := by
  revert v; decide

/-- HDMA5 of a transfer that is not stopped: the blocks left minus one, modulo 128 (R348). -/
theorem Hdma.status_toNat (h : Hdma) (up : Bool) (active : h.state ≠ .stopped) :
    (h.status up).toNat = (h.blocksLeft up + 127) % 128 := by
  have mask : ∀ v : Byte, (v &&& 0x7F).toNat = v.toNat % 128 := by decide
  unfold Hdma.status
  rw [if_neg active, mask, BitVec.toNat_sub, BitVec.toNat_ofNat]
  simp only [BitVec.ofNat_eq_ofNat, BitVec.toNat_ofNat]
  omega

/-- Settles O45: each register by its row in the table. -/
theorem registerReads : Obligations.RegisterReads := by
  unfold Obligations.RegisterReads
  intro s low modeBits
  have base (n : Nat) (r : IoReg) (row : (n, r, false) ∈ ioMap) :
      s.busRead (BitVec.ofNat 16 n) = s.ioRead .cpu r := s.busRead_reg row nofun
  refine ⟨(base 0xFF00 .p1 (by decide)).trans s.io.p1_eq, base 0xFF01 .sb (by decide),
    base 0xFF02 .sc (by decide), base 0xFF04 .div (by decide), base 0xFF05 .tima (by decide),
    base 0xFF06 .tma (by decide), (base 0xFF07 .tac (by decide)).trans (ones_append_three _),
    (base 0xFF0F .iflag (by decide)).trans (ones_append_five _), base 0xFF40 .lcdc (by decide),
    (base 0xFF41 .stat (by decide)).trans s.ppu.stat_eq, base 0xFF42 .scy (by decide),
    base 0xFF43 .scx (by decide), base 0xFF44 .ly (by decide), base 0xFF45 .lyc (by decide),
    base 0xFF46 .dma (by decide), base 0xFF47 .bgp (by decide), base 0xFF48 .obp0 (by decide),
    base 0xFF49 .obp1 (by decide), base 0xFF4A .wy (by decide), base 0xFF4B .wx (by decide),
    base 0xFF50 .bootOff (by decide), State.busRead_ie rfl, fun enhanced => ?_⟩
  have extra (n : Nat) (r : IoReg) (row : (n, r, true) ∈ ioMap) :
      s.busRead (BitVec.ofNat 16 n) = s.ioRead .cpu r := s.busRead_reg row fun _ => enhanced
  have hdma5 : s.busRead 0xFF55 = s.hdma.status s.params.hdma5RoundsUp := extra 0xFF55 .hdma5 (by decide)
  refine ⟨(extra 0xFF4F .vbk (by decide)).trans (ones_append_one _), extra 0xFF51 .hdma1 (by decide),
    extra 0xFF52 .hdma2 (by decide), extra 0xFF53 .hdma3 (by decide), extra 0xFF54 .hdma4 (by decide),
    fun stopped => ?_, fun active down => ?_, fun active up => ?_,
    (extra 0xFF70 .svbk (by decide)).trans (ones_append_three _)⟩
  · rw [hdma5, Hdma.status, if_pos stopped]
  · rw [hdma5, Hdma.status_toNat _ _ active, down]
    rfl
  · rw [hdma5, Hdma.status_toNat _ _ active, up]
    rfl

/-- Settles O46: each register by its row in the table. -/
theorem registerWrites : Obligations.RegisterWrites := by
  unfold Obligations.RegisterWrites
  intro s v
  have base (n : Nat) (r : IoReg) (row : (n, r, false) ∈ ioMap) :
      s.busWrite (BitVec.ofNat 16 n) v = s.ioWrite r v := s.busWrite_reg v row nofun
  refine ⟨base 0xFF00 .p1 (by decide), base 0xFF01 .sb (by decide), base 0xFF02 .sc (by decide),
    base 0xFF05 .tima (by decide), base 0xFF06 .tma (by decide), base 0xFF07 .tac (by decide),
    base 0xFF0F .iflag (by decide), base 0xFF40 .lcdc (by decide), base 0xFF41 .stat (by decide),
    base 0xFF42 .scy (by decide), base 0xFF43 .scx (by decide), base 0xFF44 .ly (by decide),
    base 0xFF45 .lyc (by decide), base 0xFF46 .dma (by decide), base 0xFF47 .bgp (by decide),
    base 0xFF48 .obp0 (by decide), base 0xFF49 .obp1 (by decide), base 0xFF4A .wy (by decide),
    base 0xFF4B .wx (by decide), base 0xFF50 .bootOff (by decide), State.busWrite_ie rfl v,
    fun a low high => ?_, fun enhanced => ?_⟩
  · rw [State.busWrite_io (by omega) (by omega), ioRegAt, if_pos ⟨low, high⟩]
    rfl
  · have extra (n : Nat) (r : IoReg) (row : (n, r, true) ∈ ioMap) :
        s.busWrite (BitVec.ofNat 16 n) v = s.ioWrite r v := s.busWrite_reg v row fun _ => enhanced
    exact ⟨extra 0xFF4F .vbk (by decide), extra 0xFF51 .hdma1 (by decide), extra 0xFF52 .hdma2 (by decide),
      extra 0xFF53 .hdma3 (by decide), extra 0xFF54 .hdma4 (by decide), extra 0xFF55 .hdma5 (by decide),
      extra 0xFF70 .svbk (by decide)⟩

/-! ## The CPU's registers (R21, R22, R23) -/

theorem Cpu.pair_setPair_other (r : Cpu) {p q : Pair} (w : Word) (h : p ≠ q) :
    (r.setPair p w).pair q = r.pair q := by
  cases p <;> cases q <;> first | rfl | exact absurd rfl h

theorem Cpu.stackPair_setStackPair_other (r : Cpu) {p q : StackPair} (w : Word) (h : p ≠ q) :
    (r.setStackPair p w).stackPair q = r.stackPair q := by
  cases p <;> cases q <;> first | rfl | exact absurd rfl h

/-- A word masked with `0xFFF0` has its low byte masked with `0xF0`. -/
theorem joinBytes_and (h l : Byte) : joinBytes h l &&& 0xFFF0 = joinBytes h (l &&& 0xF0) := by
  have mask : (0xFFF0 : Word) = (0xFF : Byte) ++ (0xF0 : Byte) := by decide
  have high : h &&& 0xFF = h := BitVec.and_allOnes
  rw [joinBytes, mask, BitVec.and_append, high]
  rfl

theorem joinBytes_getLsbD_low (h l : Byte) {i : Nat} (low : i < 8) :
    (joinBytes h l).getLsbD i = l.getLsbD i := by
  rw [joinBytes, BitVec.getLsbD_append, if_pos low]

theorem joinBytes_low_nibble (h l : Byte) : (joinBytes h l).extractLsb' 0 4 = l.extractLsb' 0 4 := by
  apply BitVec.eq_of_getLsbD_eq
  intro i hi
  rw [BitVec.getLsbD_extractLsb', BitVec.getLsbD_extractLsb', joinBytes_getLsbD_low _ _ (by omega)]

theorem Flags.toByte_bits (f : Flags) :
    f.toByte.getLsbD 7 = f.z ∧ f.toByte.getLsbD 6 = f.n ∧ f.toByte.getLsbD 5 = f.h
      ∧ f.toByte.getLsbD 4 = f.c ∧ f.toByte.extractLsb' 0 4 = 0 := by
  obtain ⟨z, n, h, c⟩ := f
  revert z n h c; decide

/-- Settles O41. -/
theorem pairsAliasTheirHalves : Obligations.PairsAliasTheirHalves := by
  unfold Obligations.PairsAliasTheirHalves
  intro r x v w p q
  have stack : (r.setStackPair q w).stackPair q = if q = .af then w &&& 0xFFF0 else w := by
    conv_lhs => rw [← joinBytes_high_low w, Cpu.stackPair_setStackPair_self]
    split
    · rw [← joinBytes_and, joinBytes_high_low]
    · exact joinBytes_high_low w
  obtain ⟨z, n, h, c, low⟩ := r.flags.toByte_bits
  refine ⟨r.reg_setReg_self x v, fun y other => r.reg_setReg_other v (Ne.symm other), r.setReg_flags x v,
    r.setReg_sp x v, by cases x <;> rfl, rfl, rfl, rfl, r.pair_setPair_self p w,
    fun p' other => r.pair_setPair_other w other, by cases p <;> rfl, r.setPair_flags p w, by cases p <;> rfl,
    stack, fun q' other => r.stackPair_setStackPair_other w other, r.setStackPair_sp q w, by cases q <;> rfl,
    highByte_joinBytes r.a _, (joinBytes_getLsbD_low _ _ (by decide)).trans z,
    (joinBytes_getLsbD_low _ _ (by decide)).trans n, (joinBytes_getLsbD_low _ _ (by decide)).trans h,
    (joinBytes_getLsbD_low _ _ (by decide)).trans c, (joinBytes_low_nibble _ _).trans low⟩

end Sys2Proof.Machine
end

section
/-! SUPPORT. The step and its instruction: the fetch from ROM, what a step can answer, what no step changes, and
the step as the run of its ticks (R305, R316, R318, R370). -/

namespace Sys2Proof.Machine

/-! ## The fetch -/

/-- Settles O5. -/
theorem fetchReadsTheBytesAtPC : Obligations.FetchReadsTheBytesAtPC := by
  unfold Obligations.FetchReadsTheBytesAtPC
  intro s op p u
  have fetch : s.fetchInstr = _ := s.fetchInstr_eq
  have operand : s.cpu.operandPc = p := rfl
  refine ⟨operandCount_le op, fun n => ?_, fun n => ?_, fun n => ?_⟩ <;>
    rw [fetch, n, operand] <;>
    simp only [show List.range 0 = [] from rfl, show List.range 1 = [0] from rfl,
      show List.range 2 = [0, 1] from rfl, List.map_cons, List.map_nil, BitVec.add_zero]
  all_goals rfl

/-- In a state reached without a store, a read of cartridge ROM with the overlay off gives the ROM's byte. -/
theorem State.Frame.busRead_rom {s t : State} (frame : s.Frame t) (off : s.io.bootActive = false) {a : Word}
    (rom : a.toNat < 0x8000) : t.busRead a = s.mem.read a.toNat := by
  have off' : t.io.bootActive = false := (congrArg Settings.bootActive frame.settings).trans off
  rw [State.busRead_rom rom, State.romRead_of_not_overlay (by simp [off'])]
  refine frame.of_plain ?_ ?_
  · unfold IsOamCell; omega
  · unfold IsVramCell; omega

/-- An instruction has as many bytes after the first as its first byte asks for (R120). -/
theorem encode_eq_cons {i : Instr} (complete : i.wf = true) :
    ∃ b bs, encode i = b :: bs ∧ bs.length = operandCount b := by
  obtain ⟨b, bs, bytes⟩ : ∃ b bs, encode i = b :: bs := List.exists_cons_of_ne_nil (by
    intro e
    have decodes := i.decodes complete []
    rw [e] at decodes
    cases decodes)
  refine ⟨b, bs, bytes, ?_⟩
  have count := operandCount_le b
  have decodes := i.decodes complete [0, 0]
  have length : ((bs ++ [0, 0]).take (operandCount b)).length = operandCount b := by
    rw [List.length_take, List.length_append]
    simp only [List.length_cons, List.length_nil]
    omega
  obtain ⟨j, decodes', -⟩ := decode_of_length length ((bs ++ [0, 0]).drop (operandCount b))
  rw [List.cons_append, List.take_append_drop, ← List.cons_append, ← bytes, decodes] at decodes'
  have rest := congrArg List.length (Prod.mk.inj (Except.ok.inj decodes')).2
  rw [List.length_drop, List.length_append] at rest
  simp only [List.length_cons, List.length_nil] at rest
  omega

/-- Settles O6: each byte is read from ROM in its own M-cycle, and no tick changes ROM. -/
theorem romInstructionRuns : Obligations.RomInstructionRuns := by
  unfold Obligations.RomInstructionRuns
  intro s i s1 complete off noLatch halted stopped unpolled inRom bytes
  obtain ⟨b, bs, encoded, length⟩ := encode_eq_cons complete
  rw [encoded] at inRom bytes ⊢
  rw [List.length_cons] at inRom bytes ⊢
  have pc : s1.cpu.pc = s.cpu.pc := s.cpu.countEi_pc
  have latch : s1.cpu.haltBug = false := s.cpu.countEi_haltBug.trans noLatch
  have read (m k : Nat) (h : k < bs.length + 1) :
      (State.nextCycle^[m] s1).busRead (s.cpu.pc + BitVec.ofNat 16 k) = (b :: bs).getD k 0 := by
    have address : (s.cpu.pc + BitVec.ofNat 16 k).toNat = s.cpu.pc.toNat + k := by
      rw [BitVec.toNat_add, BitVec.toNat_ofNat]
      omega
    rw [(s.polled_frame.trans (s1.nextCycles_frame m)).busRead_rom off (by omega), address, bytes k h]
  have opcode : s1.busRead s1.cpu.pc = b := by
    rw [pc]
    simpa using read 0 0 (Nat.succ_pos _)
  have operandPc : s1.cpu.operandPc = s.cpu.pc + 1 := by
    rw [Cpu.operandPc, latch, if_neg Bool.false_ne_true, pc]
  have pcs (k : Nat) : s.cpu.pc + 1 + BitVec.ofNat 16 k = s.cpu.pc + BitVec.ofNat 16 (k + 1) := by
    rw [BitVec.add_assoc, Nat.add_comm k, BitVec.ofNat_add]
    rfl
  have operands : ((List.range bs.length).map fun k =>
      (State.nextCycle^[k + 1] s1).busRead (s1.cpu.operandPc + BitVec.ofNat 16 k)) = bs := by
    refine List.ext_getElem (by simp) fun k _ hk => ?_
    rw [List.getElem_map, List.getElem_range, operandPc, pcs, read (k + 1) (k + 1) (by omega),
      List.getD_cons_succ, List.getD_eq_getElem _ _ hk]
  have fetch : s1.fetchInstr = _ := s1.fetchInstr_eq
  rw [opcode, ← length, operands, operandPc, pcs] at fetch
  have decodes : decode s1.fetchInstr.1 = .ok (i, []) := by
    rw [fetch, ← encoded, ← List.append_nil (encode i)]
    exact i.decodes complete []
  have run : step s = s1.runOrIdle := step_of_unpolled unpolled
  rw [run, State.runOrIdle_of_awake (s := s1) (s.cpu.countEi_halted.trans halted)
    (s.cpu.countEi_stopped.trans stopped), State.fetchAndRun_of_decode decodes, fetch]
  have cpu : ({ s1.cpu with pc := s.cpu.pc + BitVec.ofNat 16 (bs.length + 1), haltBug := false } : Cpu)
      = { s1.cpu with pc := s.cpu.pc + BitVec.ofNat 16 (bs.length + 1) } := by
    rw [← latch]
  exact congrArg (fun r => exec i ((State.nextCycle^[bs.length] s1).withCpu r)) cpu

/-! ## What an instruction and a step can answer -/

/-- An instruction ends in a state, or it is an unassigned opcode. -/
theorem exec_cases (i : Instr) (s : State) :
    (∃ u, exec i s = finish u) ∨ ∃ op, unassignedOpcode i = some op ∧ exec i s = unassigned op s := by
  cases h : unassignedOpcode i with
  | some op => exact .inr ⟨op, rfl, exec_unassigned h s⟩
  | none =>
    refine .inl ?_
    by_cases h1 : i = .halt
    · exact ⟨_, h1 ▸ exec_halt s⟩
    by_cases h2 : ∃ n, i = .stop n
    · obtain ⟨n, rfl⟩ := h2
      exact ⟨_, exec_stop n s⟩
    have trivially : Keeps fun _ => True := ⟨fun _ _ _ _ => trivial, fun _ _ _ _ => trivial, fun _ _ => trivial⟩
    obtain ⟨u, -, runs⟩ := trivially.execEnds i h1 (fun n e => h2 ⟨n, e⟩) h (s := s) trivial
    exact ⟨u, runs⟩

theorem unassignedOpcode_mem {i : Instr} {op : Byte} (h : unassignedOpcode i = some op) :
    op ∈ unassignedOpcodes ∧ encode i = [op] := by
  cases i <;> simp only [unassignedOpcode, Option.some.injEq, reduceCtorEq] at h <;> subst h <;>
    exact ⟨by decide, rfl⟩

theorem State.fetchInstr_bytes (s : State) :
    ∃ b bs, s.fetchInstr.1 = b :: bs ∧ bs.length = operandCount b := by
  rw [s.fetchInstr_eq]
  exact ⟨_, _, rfl, by simp⟩

/-- The fetched bytes are one instruction, whole (R120, R132). -/
theorem State.decode_fetchInstr (s : State) :
    ∃ i, decode s.fetchInstr.1 = .ok (i, []) ∧ i.wf = true ∧ encode i = s.fetchInstr.1 := by
  obtain ⟨b, bs, bytes, length⟩ := s.fetchInstr_bytes
  have decodes := decode_of_length length []
  rwa [List.append_nil, ← bytes] at decodes

/-- Running an instruction or idling ends in a next state, or at an unassigned opcode, with the parameters as
they were. -/
theorem State.runOrIdle_cases (s : State) : (∃ u, s.runOrIdle = finish u)
    ∨ ∃ op ∈ unassignedOpcodes, ∃ u, u.params = s.params ∧ s.runOrIdle = unassigned op u := by
  by_cases asleep : s.cpu.halted = true ∨ s.cpu.stopped = true
  · exact .inl ⟨s, State.runOrIdle_of_asleep asleep⟩
  · simp only [not_or, Bool.not_eq_true] at asleep
    obtain ⟨i, decodes, -⟩ := s.decode_fetchInstr
    rw [State.runOrIdle_of_awake asleep.1 asleep.2, State.fetchAndRun_of_decode decodes]
    refine (exec_cases i _).imp_right fun ⟨op, opcode, runs⟩ => ⟨op, (unassignedOpcode_mem opcode).1, _, ?_, runs⟩
    have state : s.fetchInstr.2 = _ := congrArg Prod.snd s.fetchInstr_eq
    rw [state]
    exact congrArg Settings.params (s.nextCycles_frame _).settings

theorem State.wake_params (s : State) : s.wake.params = s.params := by
  rw [s.wake_eq]
  split
  · exact s.nextCycle_params
  · rfl

theorem step_cases (s : State) : (∃ u, step s = finish u)
    ∨ ∃ op ∈ unassignedOpcodes, ∃ u, u.params = s.params ∧ step s = unassigned op u := by
  cases source : s.polled.polledSource with
  | none =>
    rw [step_of_unpolled source, ← s.polled_params]
    exact s.polled.runOrIdle_cases
  | some i =>
    rw [step_of_polled source]
    split
    · exact .inl ⟨_, rfl⟩
    · rw [← s.polled_params, ← s.polled.wake_params]
      exact s.polled.wake.runOrIdle_cases

/-- An unassigned opcode, by the policy (R296, R305). -/
theorem unassigned_cases (op : Byte) (s : State) :
    s.params.undefinedPolicy = .nop ∧ unassigned op s = finish s
    ∨ s.params.undefinedPolicy = .fault ∧ unassigned op s = .fault (.fatalDecode op s) := by
  unfold unassigned
  cases policy : s.params.undefinedPolicy
  · exact .inl ⟨rfl, rfl⟩
  · exact .inr ⟨rfl, rfl⟩

/-! ## What no step changes -/

/-- A property that every action of a step and the rest of a tick keep, and that does not look at the CPU or at
the interrupt controller, is kept by every step. -/
theorem Keeps.step {P : State → Prop} (k : Keeps P) (start : ∀ s, P s → P s.startTick)
    (rest : ∀ s, P s → P s.endTick) (cpu : ∀ s r, P s → P (s.withCpu r)) (irq : ∀ s q, P s → P (s.withIrq q))
    {s t : State} (h : P s) (e : Machine.step s = .next t) : P t := by
  rcases k.step_next (start s h) e with ⟨u, hu, rfl⟩ | ⟨i, u, hu, -, -, runs⟩ | ⟨i, u, hu, rfl⟩
  · exact rest u hu
  · obtain ⟨v, rfl, hv | ⟨w, hw, rfl⟩ | ⟨w, hw, rfl⟩⟩ := k.exec_next (k.fetchInstr hu) runs
    · exact rest v hv
    · exact rest _ (cpu w _ hw)
    · exact rest _ (cpu w _ hw)
  · exact rest _ (irq u _ hu)

@[simp] theorem State.updateStatLine_io (s : State) : s.updateStatLine.io = s.io := by
  unfold State.updateStatLine
  dsimp only
  split <;> rfl

/-- A write only ever turns the boot overlay off (R59). -/
theorem State.busWrite_bootActive (s : State) (a : Word) (v : Byte) (off : s.io.bootActive = false) :
    (s.busWrite a v).io.bootActive = false := by
  have reg (r : IoReg) : (s.ioWrite r v).io.bootActive = false := by
    cases r <;> simp only [State.ioWrite]
    case tima | bootOff => split <;> first | exact off | rfl
    all_goals simp [off]
  unfold State.busWrite State.rawWrite
  split
  · exact off
  · split
    case h_7 =>
      split
      · exact reg _
      · exact off
    all_goals exact off

/-- The parameters are those of `s`, and the overlay is on only if it was on in `s`. -/
def State.SetUpAs (s u : State) : Prop := u.params = s.params ∧ (s.io.bootActive = false → u.io.bootActive = false)

theorem State.SetUpAs.of_frame {s u v : State} (h : s.SetUpAs u) (frame : u.Frame v) : s.SetUpAs v :=
  ⟨(congrArg Settings.params frame.settings).trans h.1,
    fun off => (congrArg Settings.bootActive frame.settings).trans (h.2 off)⟩

theorem State.SetUpAs.keeps (s : State) : Keeps s.SetUpAs where
  regs _ _ h _ := h
  write u a v h := ⟨(u.busWrite_params a v).trans h.1, fun off => u.busWrite_bootActive a v (h.2 off)⟩
  cycle u h := h.of_frame u.nextCycle_frame

/-- Settles O8. -/
theorem parametersNeverChange : Obligations.ParametersNeverChange := by
  unfold Obligations.ParametersNeverChange
  intro s t e
  exact (State.SetUpAs.keeps s).step (fun u h => h.of_frame u.startTick_frame) (fun u h => h.of_frame u.endTick_frame)
    (fun _ _ h => h) (fun _ _ h => h) ⟨rfl, id⟩ e

theorem reaches_params {n : Nat} {s t : State} (h : Reaches n s t) : t.params = s.params := by
  induction h with
  | refl s => rfl
  | tail _ e ih => exact ((parametersNeverChange _ _ e).1).trans ih

/-- Settles O7. -/
theorem onlyUnassignedOpcodesStop : Obligations.OnlyUnassignedOpcodesStop := by
  unfold Obligations.OnlyUnassignedOpcodesStop
  have answers (s : State) : (∃ u, step s = finish u) ∨ ∃ op ∈ unassignedOpcodes, ∃ u,
      s.params.undefinedPolicy = .fault ∧ step s = .fault (.fatalDecode op u) := by
    refine (step_cases s).elim .inl ?_
    rintro ⟨op, mem, u, params, runs⟩
    rw [← params, runs]
    exact (unassigned_cases op u).imp (fun h => ⟨u, h.2⟩) fun h => ⟨op, mem, u, h⟩
  refine ⟨fun s r e => ?_, fun s f e => ?_, fun s policy n t reaches => ?_⟩
  · rcases answers s with ⟨u, runs⟩ | ⟨op, -, u, -, runs⟩ <;> rw [runs] at e <;> cases e
  · rcases answers s with ⟨u, runs⟩ | ⟨op, mem, u, policy, runs⟩ <;> rw [runs] at e <;> cases e
    exact ⟨policy, op, mem, u, rfl⟩
  · rcases answers t with ⟨u, runs⟩ | ⟨op, -, u, fault, -⟩
    · exact ⟨_, runs⟩
    · rw [reaches_params reaches, policy] at fault
      cases fault

end Sys2Proof.Machine
end

section
/-! SUPPORT. The step as the run of its ticks (R32, R370, R373), and what a dispatch leaves alone (R315). -/

namespace Sys2Proof.Machine

/-! ## Tick by tick -/

theorem mem_unassignedOpcodes_operandCount : ∀ op ∈ unassignedOpcodes, operandCount op = 0 := by decide

/-- The instruction of an unassigned opcode is the one of its row. -/
theorem unassignedOpcode_of_encode {i : Instr} {op : Byte} (mem : op ∈ unassignedOpcodes)
    (encodes : encode i = [op]) (complete : i.wf = true) : unassignedOpcode i = some op := by
  have decodes := i.decodes complete []
  rw [encodes] at decodes
  unfold unassignedOpcodes at mem
  fin_cases mem <;> cases decodes <;> rfl

/-- From the last fetched byte on, the ticks do what the instruction's meaning says. -/
theorem Ends.afterFetch {i : Instr} {b : Byte} {bs : List Byte} (complete : i.wf = true)
    (encodes : encode i = b :: bs) (length : bs.length = operandCount b) (s : State) :
    Ends (exec i s) (s.afterFetch (b :: bs)) := by
  have whole : ¬ (b :: bs).length ≤ operandCount b := by
    rw [List.length_cons]
    omega
  unfold State.afterFetch
  dsimp only
  rw [List.getD_cons_zero, if_neg whole]
  split
  · rename_i mem
    obtain rfl := List.eq_nil_of_length_eq_zero (length.trans (mem_unassignedOpcodes_operandCount b mem))
    rw [exec_unassigned (unassignedOpcode_of_encode mem encodes complete), unassigned]
    cases s.params.undefinedPolicy
    · simp [Ends, finish]
    · rfl
  · rename_i assigned
    have named : unassignedOpcode i = none := by
      rw [Option.eq_none_iff_forall_ne_some]
      intro op h
      obtain ⟨mem, row⟩ := unassignedOpcode_mem h
      rw [encodes] at row
      exact assigned ((List.cons.inj row).1 ▸ mem)
    obtain ⟨t, works, runs⟩ := starts i s (fun h => by rw [h] at complete; cases complete) named
    rw [← encodes, runs]
    exact works.ends

/-- The tick of an awake CPU's opcode fetch, or of an idle one, and the ticks after it. -/
theorem Ends.fetchOrIdle (s : State) : Ends s.runOrIdle s.fetchOrIdle := by
  by_cases asleep : s.cpu.halted = true ∨ s.cpu.stopped = true
  · rw [State.runOrIdle_of_asleep asleep, State.fetchOrIdle, if_pos (by simpa using asleep)]
    simp [Ends, finish]
  · obtain ⟨halted, stopped⟩ : s.cpu.halted = false ∧ s.cpu.stopped = false := by simpa using asleep
    obtain ⟨i, decodes, complete, encodes⟩ := s.decode_fetchInstr
    rw [State.runOrIdle_of_awake halted stopped, State.fetchAndRun_of_decode decodes, State.fetchOrIdle,
      if_neg (by simp [halted, stopped])]
    refine Ends.fetch (operandCount s.opcodeFetch.1) _ _ (Nat.add_comm ..) (List.cons_ne_nil _ _) ?_
    exact Ends.afterFetch complete encodes (State.fetchOperands_length _ _) s.fetchInstr.2

/-- After the wake-up: the dispatch, or an instruction. -/
theorem Ends.afterPoll (s : State) (i : Fin 5) :
    Ends (if s.cpu.ime then dispatch s i else s.runOrIdle) (s.afterPoll i) := by
  unfold State.afterPoll
  cases s.cpu.ime
  · exact Ends.fetchOrIdle s
  · exact (Works.dispatch s i).ends

/-- Settles O39: the CPU's part of the first tick is the poll; what it leaves in flight ends where the step
ends. -/
theorem stepIsItsTicks : Obligations.StepIsItsTicks := by
  unfold Obligations.StepIsItsTicks
  intro s
  have polled : s.startTick.withCpu s.startTick.cpu.countEi = s.polled := by
    rw [State.startTick_cpu, State.polled]
  refine TicksTo.of_start ?_
  unfold State.cpuPart
  dsimp only
  rw [polled]
  cases source : s.polled.polledSource with
  | none =>
    rw [step_of_unpolled source]
    exact Ends.fetchOrIdle s.polled
  | some i =>
    rw [step_of_polled source, s.polled.wake_eq]
    dsimp only
    split
    · have waking : Flight.waking i ≠ .boundary := nofun
      rw [Ends, if_neg waking]
      refine TicksTo.of_start ?_
      have woken := Ends.afterPoll (s.polled.nextCycle.withCpu
        { s.polled.cpu with halted := false, stopped := false }) i
      rwa [← State.nextCycle_withCpu] at woken ⊢
    · exact Ends.afterPoll _ i

end Sys2Proof.Machine
end

section
/-! SUPPORT. What an interrupt dispatch leaves alone (R315): stores that go to no register, with the cells they
reach. -/

namespace Sys2Proof.Machine

/-! ## The frame of stores that go to no register -/

/-- As `State.Frame`, but for the cells of `C`, which stores have reached. -/
structure State.FrameBut (s t : State) (C : Nat → Prop) : Prop where
  settings : t.settings = s.settings
  mem      : ∀ k, ¬ s.EngineCell k → ¬ C k → t.mem.read k = s.mem.read k
  engine   : ∀ k, t.EngineCell k → s.EngineCell k
  pending  : ∀ i, s.irq.flags.getLsbD i = true → t.irq.flags.getLsbD i = true
  wf       : s.mem.wf → t.mem.wf

theorem State.Frame.but {s t : State} (h : s.Frame t) : s.FrameBut t fun _ => False :=
  ⟨h.settings, fun k hk _ => h.mem k hk, h.engine, h.pending, h.wf⟩

theorem State.FrameBut.trans {s t u : State} {C D : Nat → Prop} (h : s.FrameBut t C) (g : t.FrameBut u D) :
    s.FrameBut u fun k => C k ∨ D k where
  settings := g.settings.trans h.settings
  mem k hk hc := (g.mem k (fun e => hk (h.engine k e)) fun d => hc (.inr d)).trans
    (h.mem k hk fun c => hc (.inl c))
  engine k e := h.engine k (g.engine k e)
  pending i hi := g.pending i (h.pending i hi)
  wf hs := g.wf (h.wf hs)

theorem State.FrameBut.weaken {s t : State} {C D : Nat → Prop} (h : s.FrameBut t C) (sub : ∀ k, C k → D k) :
    s.FrameBut t D :=
  ⟨h.settings, fun k hk hd => h.mem k hk fun c => hd (sub k c), h.engine, h.pending, h.wf⟩

/-- An address at which a write goes to no register. -/
def State.Plain (s : State) (a : Word) : Prop := s.route a ≠ .io ∧ s.route a ≠ .ie

theorem State.busWrite_transfers {s : State} {a : Word} (v : Byte) (plain : s.Plain a) :
    (s.busWrite a v).dma = s.dma ∧ (s.busWrite a v).hdma = s.hdma := by
  unfold State.busWrite
  split
  · exact ⟨rfl, rfl⟩
  · unfold State.rawWrite
    split
    case h_7 route => exact absurd route plain.1
    all_goals exact ⟨rfl, rfl⟩

theorem State.busWrite_frameBut {s : State} {a : Word} (v : Byte) (plain : s.Plain a) :
    s.FrameBut (s.busWrite a v) fun k => s.writtenCell a = some k where
  settings := s.busWrite_settings a v plain
  mem k _ hk := s.busWrite_read_other a v hk
  engine k e := by
    obtain ⟨dma, hdma⟩ := s.busWrite_transfers v plain
    simpa only [State.EngineCell, dma, hdma, State.busWrite_params] using e
  pending i hi := by rwa [s.busWrite_irq a v plain]
  wf := s.busWrite_wf a v

/-! ## The routing goes by the settings -/

theorem State.route_congr {s t : State} (h : t.settings = s.settings) (a : Word) : t.route a = s.route a := by
  have params : t.params = s.params := congrArg Settings.params h
  have vbk : t.io.vbk = s.io.vbk := congrArg Settings.vbk h
  have svbk : t.io.svbk = s.io.svbk := congrArg Settings.svbk h
  simp only [State.route, State.vramBank, State.wramBank, params, vbk, svbk]

theorem State.routedCell_congr {s t : State} (h : t.settings = s.settings) (a : Word) :
    t.routedCell a = s.routedCell a := by
  unfold State.routedCell
  rw [State.route_congr h]

theorem State.Plain.congr {s t : State} (h : t.settings = s.settings) {a : Word} (plain : s.Plain a) :
    t.Plain a := by
  unfold State.Plain
  rwa [State.route_congr h]

/-- The two bytes of a push that go to no register never meet in one cell. -/
theorem State.push_cells_ne {s t u : State} (ht : t.settings = s.settings) (hu : u.settings = s.settings)
    {sp : Word} {j k : Nat} (high : t.writtenCell (sp - 1) = some j) (low : u.writtenCell (sp - 2) = some k) :
    j ≠ k := by
  rintro rfl
  have high' := (State.writtenCell_eq_some.1 high).2
  have low' := (State.writtenCell_eq_some.1 low).2
  rw [State.routedCell_congr ht] at high'
  rw [State.routedCell_congr hu, State.routedCell_shared high', BitVec.toNat_eq] at low'
  bv_omega

theorem State.clear_pending (s : State) {i j : Fin 5} (h : j ≠ i) :
    (s.clear i).irq.flags.getLsbD j = s.irq.flags.getLsbD j := by
  have bits : ∀ (f : BitVec 5) (i j : Fin 5), j ≠ i → (f &&& ~~~(sourceMask i)).getLsbD j = f.getLsbD j := by
    decide
  exact bits _ _ _ h

/-- The end of the last tick leaves the cells no engine writes as the pushes left them. -/
theorem State.endDispatch_read {u : State} {k : Nat} (r : Cpu) (i : Fin 5) (free : ¬ u.EngineCell k) :
    ((u.withCpu r).clear i).endTick.mem.read k = u.mem.read k :=
  (State.endTick_frame ((u.withCpu r).clear i)).mem k free

/-- Settles O12. -/
theorem dispatchSavesOnlyThePC : Obligations.DispatchSavesOnlyThePC := by
  unfold Obligations.DispatchSavesOnlyThePC
  intro s i s1 m1 m3 m4 polled ime high low
  have run := dispatchSequence s i polled ime
  have to3 : s.Frame m3 := by
    have to1 : s.Frame m1 := by
      unfold m1
      split
      · exact s.polled_frame.cycle
      · exact s.polled_frame
    exact to1.cycle.cycle
  have store3 := m3.busWrite_frameBut (highByte s.cpu.pc) (State.Plain.congr to3.settings high)
  have to4 : s.FrameBut m4 fun k => m3.writtenCell (s.cpu.sp - 1) = some k :=
    ((to3.but.trans store3).trans (State.nextCycle_frame _).but).weaken (by simp)
  have store4 := m4.busWrite_frameBut (lowByte s.cpu.pc) (State.Plain.congr to4.settings low)
  have cycle := State.nextCycle_frame (m4.busWrite (s.cpu.sp - 2) (lowByte s.cpu.pc))
  have to5 := to4.trans (store4.trans cycle.but)
  refine ⟨_, run, State.endTick_cpu _, ?_, fun j other pending => ?_, fun k free => ?_⟩
  · exact (State.endTick_frame _).settings.trans to5.settings
  · refine (State.endTick_frame _).pending j ?_
    rw [State.clear_pending _ other]
    exact to5.pending j pending
  · have free4 : ¬ m4.EngineCell k := fun e => free (to4.engine k e)
    have free5 := fun e => free (to5.engine k e)
    refine ⟨fun ne3 ne4 => ?_, fun canonical cell => ?_, fun canonical cell => ?_⟩
    · refine (State.endDispatch_read _ _ free5).trans (to5.mem k free ?_)
      rintro (at3 | at4 | none)
      exacts [ne3 at3, ne4 at4, none]
    · have ne4 : m4.writtenCell (s.cpu.sp - 2) ≠ some k := fun e =>
        State.push_cells_ne to3.settings to4.settings cell e rfl
      have free3 : ¬ (m3.busWrite (s.cpu.sp - 1) (highByte s.cpu.pc)).EngineCell k :=
        fun e => free (to3.engine k (store3.engine k e))
      refine (State.endDispatch_read _ _ free5).trans ?_
      refine (cycle.mem k fun e => free4 (store4.engine k e)).trans ?_
      refine (store4.mem k free4 ne4).trans (((State.nextCycle_frame _).mem k free3).trans ?_)
      exact m3.busWrite_read_self _ _ cell (to3.wf canonical)
    · refine (State.endDispatch_read _ _ free5).trans ?_
      refine (cycle.mem k fun e => free4 (store4.engine k e)).trans ?_
      exact m4.busWrite_read_self _ _ cell (to4.wf canonical)

end Sys2Proof.Machine
end

section
/-! SUPPORT. The byte 0xCB, the returns, the system instructions and the unassigned opcodes: the state each
finishes in, given to the shapes of `RunsAs`. -/

namespace Sys2Proof.Machine

/-! ## The byte 0xCB (R295) -/

/-- The rule the extended opcode selects is the meaning of the form it decodes to. -/
theorem runExtended_eq (op2 : Byte) (s : State) : runExtended op2 s = exec (decodeExtended op2) s := by
  unfold runExtended decodeExtended
  dsimp only
  generalize operand8 (fieldZ op2) = o
  generalize fieldX op2 = x
  match x, o with
  | 0, .reg r => exact (exec_rotReg _ r s).symm
  | 0, .mem => exact (exec_rotMem _ s).symm
  | 1, .reg r => exact (exec_bitReg _ r s).symm
  | 1, .mem => exact (exec_bitMem _ s).symm
  | 2, .reg r => exact (exec_resReg _ r s).symm
  | 2, .mem => exact (exec_resMem _ s).symm
  | n + 3, .reg r => exact (exec_setReg _ r s).symm
  | n + 3, .mem => exact (exec_setMem _ s).symm

/-- Settles O34: 0xCB is no unassigned opcode, so it finishes. -/
theorem prefixRunsTheExtendedOpcode : Obligations.PrefixRunsTheExtendedOpcode := by
  unfold Obligations.PrefixRunsTheExtendedOpcode
  intro s
  refine ⟨?_, ?_⟩
  · rw [exec_prefixCB, runExtended_eq, State.fetch8, State.nextCycle_cpu]
  · obtain ⟨u, finishes⟩ | ⟨op, unassigned, -⟩ := exec_cases .prefixCB s
    · exact ⟨u.endTick, finishes⟩
    · cases unassigned

/-! ## Returns (R278 to R280) -/

theorem encode_retCond (cc : Cond) : encode (.retCond cc) = [opcode 3 (0#1 ++ cc.code) 0] := by
  cases cc <;> rfl

theorem State.returnFromInterrupt_eq (s : State) :
    s.returnFromInterrupt = s.nextCycle.nextCycle.withCpu { s.cpu with
      sp := s.cpu.sp + 2
      pc := joinBytes (s.nextCycle.busRead (s.cpu.sp + 1)) (s.busRead s.cpu.sp)
      ime := true } := by
  rw [State.returnFromInterrupt, State.popPC_eq, State.withCpu_withCpu, State.withCpu_cpu]

/-- Settles O37: a return is a pop of PC, after one idle M-cycle more when a condition decides it. -/
theorem returns : Obligations.Returns := by
  unfold Obligations.Returns
  intro cc s
  dsimp only
  refine ⟨?_, ?_, fun taken => ?_, fun notTaken => ?_⟩
  · exact .changesCpuAfter 3 rfl (by rw [exec_ret, State.popPC_eq, State.nextCycle_cpu]; rfl)
  · exact .changesCpuAfter 3 rfl (by rw [exec_reti, State.returnFromInterrupt_eq, State.nextCycle_cpu]; rfl)
  · refine .changesCpuAfter 4 (encode_retCond cc) ?_
    rw [exec_retCond, returnIf, if_pos taken, State.popPC_eq, State.nextCycle_cpu, State.nextCycle_cpu]
    rfl
  · refine .changesCpuAfter 1 (encode_retCond cc) ?_
    rw [exec_retCond, returnIf, notTaken, if_neg Bool.false_ne_true, ← State.nextCycle_cpu s]
    exact congrArg finish (State.withCpu_self s.nextCycle).symm

/-! ## System instructions (R290 to R294) -/

theorem Irq.pending_ne_zero (q : Irq) :
    (q.pending != 0) = true ↔ ∃ i : Fin 5, q.ie.getLsbD i = true ∧ q.flags.getLsbD i = true := by
  have bits : ∀ b : BitVec 5, (b != 0) = true ↔ ∃ i : Fin 5, b.getLsbD i = true := by decide
  simp only [bits, Irq.pending_getLsbD, Bool.and_eq_true]

/-- Settles O38. -/
theorem systemInstructions : Obligations.SystemInstructions := by
  unfold Obligations.SystemInstructions
  intro n s
  dsimp only
  have latches : (!s.cpu.ime && s.irq.pending != 0) = true ↔
      s.cpu.ime = false ∧ ∃ i : Fin 5, s.irq.ie.getLsbD i = true ∧ s.irq.flags.getLsbD i = true := by
    rw [Bool.and_eq_true, Irq.pending_ne_zero, Bool.not_eq_true']
  refine ⟨?_, ?_, ?_, ?_, fun arms => ?_, fun halts => ?_⟩
  · exact .changesCpuAtOnce rfl (exec_nop s)
  · exact .changesCpuAfter 0 rfl (exec_stop n s)
  · exact .changesCpuAtOnce rfl (exec_di s)
  · exact .changesCpuAtOnce rfl (exec_ei s)
  · exact .changesCpuAtOnce rfl (by rw [exec_halt, Cpu.halt, if_pos (latches.2 arms)])
  · exact .changesCpuAtOnce rfl (by rw [exec_halt, Cpu.halt, if_neg fun h => halts (latches.1 h)])

/-! ## Unassigned opcodes (R296) -/

/-- Settles O40 (the name of the statement is the model's list of these opcodes). -/
theorem unassignedOpcodesRun : Obligations.UnassignedOpcodes := by
  unfold Obligations.UnassignedOpcodes
  intro s i op row
  have opcode : unassignedOpcode i = some op := by
    simp only [List.mem_cons, Prod.mk.injEq, List.not_mem_nil, or_false] at row
    rcases row with h | h | h | h | h | h | h | h | h | h | h <;> obtain ⟨rfl, rfl⟩ := h <;> rfl
  have encodes := (unassignedOpcode_mem opcode).2
  have runs := exec_unassigned opcode s
  refine ⟨fun nop => ?_, fun fault => ⟨encodes, ?_⟩⟩
  · exact .changesCpuAtOnce encodes (by rw [runs, unassigned, nop, State.withCpu_self])
  · rw [runs, unassigned, fault]

end Sys2Proof.Machine
end

section
/-! SUPPORT. The M-cycles of every form (R425): what the statement about the form says it takes is what the
timing table gives it. -/

namespace Sys2Proof.Machine

theorem Instr.length_encode (i : Instr) : (encode i).length = i.length := by
  cases i <;> rfl

/-- `i`, started in `s`, takes the M-cycles of the table where no transfer can freeze the CPU. -/
def TakesItsMCycles (i : Instr) (s : State) : Prop :=
  ∀ t, s.NeverFreezes → exec i s = .next t →
    t.elapsedCycles + 4 * i.length = s.elapsedCycles + 4 * (i.mCyclesOn s.cpu.flags + 1)

/-- A form takes what its statement says, so the M-cycles of the table are to be compared with that. -/
theorem RunsAs.takes {i : Instr} {bytes : List Byte} {m : Nat} {s : State} {post : State → Prop}
    (h : RunsAs i bytes m s post) (table : i.mCyclesOn s.cpu.flags = m) : TakesItsMCycles i s := by
  obtain ⟨encodes, t, runs, time, -⟩ := h
  rintro t' never runs'
  obtain rfl : t = t' := Host.Outcome.next.inj (runs.symm.trans runs')
  rw [table, ← Instr.length_encode, encodes]
  exact time never

/-- Settles O15, form by form, from the statements about the forms. -/
theorem instructionsTakeTheirMCycles : Obligations.InstructionsTakeTheirMCycles := by
  unfold Obligations.InstructionsTakeTheirMCycles
  intro i s t complete never runs
  suffices takes : i.wf = true → TakesItsMCycles i s from takes complete t never runs
  clear complete never runs
  induction i using Instr.byForm <;> intro complete
  case ldReg dst src =>
    obtain ⟨runs, -⟩ := loadRegister dst src 0 .bc 0 s
    exact runs.takes (by cases dst <;> cases src <;> rfl)
  case ldRegImm dst n =>
    obtain ⟨-, runs, -⟩ := loadRegister dst .a n .bc 0 s
    exact runs.takes (by cases dst <;> rfl)
  case ldPair p nn =>
    obtain ⟨-, -, runs, -⟩ := loadRegister .a .a 0 p nn s
    exact runs.takes (by cases p <;> rfl)
  case ldSPHL => obtain ⟨-, -, -, runs⟩ := loadRegister .a .a 0 .bc 0 s; exact runs.takes rfl
  case ldRegMem dst => obtain ⟨runs, -⟩ := loadFromMemory dst 0 0 s; exact runs.takes (by cases dst <;> rfl)
  case ldAAtBC => obtain ⟨-, runs, -⟩ := loadFromMemory .a 0 0 s; exact runs.takes rfl
  case ldAAtDE => obtain ⟨-, -, runs, -⟩ := loadFromMemory .a 0 0 s; exact runs.takes rfl
  case ldAAtNn nn => obtain ⟨-, -, -, runs, -⟩ := loadFromMemory .a nn 0 s; exact runs.takes rfl
  case ldhAAtC => obtain ⟨-, -, -, -, runs, -⟩ := loadFromMemory .a 0 0 s; exact runs.takes rfl
  case ldhAAtN n => obtain ⟨-, -, -, -, -, runs⟩ := loadFromMemory .a 0 n s; exact runs.takes rfl
  case ldMemReg r => obtain ⟨runs, -⟩ := storeToMemory r 0 0 s; exact runs.takes (by cases r <;> rfl)
  case ldAtHLImm n => obtain ⟨-, runs, -⟩ := storeToMemory .a 0 n s; exact runs.takes rfl
  case ldAtBCA => obtain ⟨-, -, runs, -⟩ := storeToMemory .a 0 0 s; exact runs.takes rfl
  case ldAtDEA => obtain ⟨-, -, -, runs, -⟩ := storeToMemory .a 0 0 s; exact runs.takes rfl
  case ldAtNnA nn => obtain ⟨-, -, -, -, runs, -⟩ := storeToMemory .a nn 0 s; exact runs.takes rfl
  case ldhAtCA => obtain ⟨-, -, -, -, -, runs, -⟩ := storeToMemory .a 0 0 s; exact runs.takes rfl
  case ldhAtNA n => obtain ⟨-, -, -, -, -, -, runs⟩ := storeToMemory .a 0 n s; exact runs.takes rfl
  case ldAAtHLDec => obtain ⟨runs, -⟩ := stepHL s; exact runs.takes rfl
  case ldAAtHLInc => obtain ⟨-, runs, -⟩ := stepHL s; exact runs.takes rfl
  case ldAtHLDecA => obtain ⟨-, -, runs, -⟩ := stepHL s; exact runs.takes rfl
  case ldAtHLIncA => obtain ⟨-, -, -, runs⟩ := stepHL s; exact runs.takes rfl
  case ldAtNnSP nn => obtain ⟨runs, -⟩ := storePair .bc nn s; exact runs.takes rfl
  case push p => obtain ⟨-, runs⟩ := storePair p 0 s; exact runs.takes (by cases p <;> rfl)
  case pop p => exact (popPairHolds p s).takes (by cases p <;> rfl)
  case ldHLSPOff e => obtain ⟨runs, -⟩ := offsetFromStackPointer e s; exact runs.takes rfl
  case addSPOff e => obtain ⟨-, runs⟩ := offsetFromStackPointer e s; exact runs.takes rfl
  case aluReg o r => exact (aluWithRegister o r s).takes (by cases o <;> cases r <;> rfl)
  case aluMem o => exact (aluWithMemory o s).takes (by cases o <;> rfl)
  case aluImm o n => exact (aluWithImmediate o n s).takes (by cases o <;> rfl)
  case incReg r => obtain ⟨runs, -⟩ := incDecByte r s; exact runs.takes (by cases r <;> rfl)
  case decReg r => obtain ⟨-, runs, -⟩ := incDecByte r s; exact runs.takes (by cases r <;> rfl)
  case incAtHL => obtain ⟨-, -, runs, -⟩ := incDecByte .a s; exact runs.takes rfl
  case decAtHL => obtain ⟨-, -, -, runs⟩ := incDecByte .a s; exact runs.takes rfl
  case daa => obtain ⟨runs, -⟩ := adjustAndCarry s; exact runs.takes rfl
  case cpl => obtain ⟨-, runs, -⟩ := adjustAndCarry s; exact runs.takes rfl
  case scf => obtain ⟨-, -, runs, -⟩ := adjustAndCarry s; exact runs.takes rfl
  case ccf => obtain ⟨-, -, -, runs⟩ := adjustAndCarry s; exact runs.takes rfl
  case addHLPair p => obtain ⟨runs, -⟩ := pairArithmetic p s; exact runs.takes (by cases p <;> rfl)
  case incPair p => obtain ⟨-, runs, -⟩ := pairArithmetic p s; exact runs.takes (by cases p <;> rfl)
  case decPair p => obtain ⟨-, -, runs⟩ := pairArithmetic p s; exact runs.takes (by cases p <;> rfl)
  case rlca => obtain ⟨runs, -⟩ := rotateAccumulator s; exact runs.takes rfl
  case rrca => obtain ⟨-, runs, -⟩ := rotateAccumulator s; exact runs.takes rfl
  case rla => obtain ⟨-, -, runs, -⟩ := rotateAccumulator s; exact runs.takes rfl
  case rra => obtain ⟨-, -, -, runs⟩ := rotateAccumulator s; exact runs.takes rfl
  case rotReg o r => obtain ⟨runs, -⟩ := rotateByte o r s; exact runs.takes (by cases o <;> cases r <;> rfl)
  case rotMem o => obtain ⟨-, runs⟩ := rotateByte o .a s; exact runs.takes (by cases o <;> rfl)
  case bitReg b r => obtain ⟨runs, -⟩ := testBit b r s; exact runs.takes (by cases b <;> cases r <;> rfl)
  case bitMem b => obtain ⟨-, runs⟩ := testBit b .a s; exact runs.takes (by cases b <;> rfl)
  case resReg b r => obtain ⟨runs, -⟩ := putBit b r s; exact runs.takes (by cases b <;> cases r <;> rfl)
  case setReg b r => obtain ⟨-, runs, -⟩ := putBit b r s; exact runs.takes (by cases b <;> cases r <;> rfl)
  case resMem b => obtain ⟨-, -, runs, -⟩ := putBit b .a s; exact runs.takes (by cases b <;> rfl)
  case setMem b => obtain ⟨-, -, -, runs⟩ := putBit b .a s; exact runs.takes (by cases b <;> rfl)
  case jpImm16 nn => obtain ⟨runs, -⟩ := jumps .z nn 0 s; exact runs.takes rfl
  case jpCond cc nn => obtain ⟨-, runs, -⟩ := jumps cc nn 0 s; exact runs.takes (by cases cc <;> rfl)
  case jpHL => obtain ⟨-, -, runs, -⟩ := jumps .z 0 0 s; exact runs.takes rfl
  case jrOff e => obtain ⟨-, -, -, runs, -⟩ := jumps .z 0 e s; exact runs.takes rfl
  case jrCond cc e => obtain ⟨-, -, -, -, runs⟩ := jumps cc 0 e s; exact runs.takes (by cases cc <;> rfl)
  case callImm16 nn => obtain ⟨runs, -⟩ := calls .z nn .t00 s; exact runs.takes rfl
  case callCond cc nn =>
    obtain ⟨-, taken, notTaken, -⟩ := calls cc nn .t00 s
    have table : (Instr.callCond cc nn).mCyclesOn s.cpu.flags = if s.cpu.flags.cond cc then 6 else 3 := by
      cases cc <;> rfl
    cases holds : s.cpu.flags.cond cc
    · exact (notTaken holds).takes (table.trans (by rw [holds]; rfl))
    · exact (taken holds).takes (table.trans (if_pos holds))
  case rst r => obtain ⟨-, -, -, runs⟩ := calls .z 0 r s; exact runs.takes (by cases r <;> rfl)
  case ret => obtain ⟨runs, -⟩ := returns .z s; exact runs.takes rfl
  case reti => obtain ⟨-, runs, -⟩ := returns .z s; exact runs.takes rfl
  case retCond cc =>
    obtain ⟨-, -, taken, notTaken⟩ := returns cc s
    have table : (Instr.retCond cc).mCyclesOn s.cpu.flags = if s.cpu.flags.cond cc then 5 else 2 := by
      cases cc <;> rfl
    cases holds : s.cpu.flags.cond cc
    · exact (notTaken holds).takes (table.trans (by rw [holds]; rfl))
    · exact (taken holds).takes (table.trans (if_pos holds))
  case nop => obtain ⟨runs, -⟩ := systemInstructions 0 s; exact runs.takes rfl
  case stop n => obtain ⟨-, runs, -⟩ := systemInstructions n s; exact runs.takes rfl
  case di => obtain ⟨-, -, runs, -⟩ := systemInstructions 0 s; exact runs.takes rfl
  case ei => obtain ⟨-, -, -, runs, -⟩ := systemInstructions 0 s; exact runs.takes rfl
  case halt =>
    obtain ⟨-, -, -, -, arms, halts⟩ := systemInstructions 0 s
    by_cases h : s.cpu.ime = false ∧ ∃ i : Fin 5, s.irq.ie.getLsbD i = true ∧ s.irq.flags.getLsbD i = true
    · exact (arms h).takes rfl
    · exact (halts h).takes rfl
  case prefixCB => exact absurd complete Bool.false_ne_true
  case unassigned i mem =>
    obtain ⟨op, opcode⟩ := mem_unassigned.1 mem
    obtain ⟨-, encodes⟩ := unassignedOpcode_mem opcode
    rcases unassigned_cases op s with ⟨-, runs⟩ | ⟨-, runs⟩
    · have ends : exec i s = finish (s.withCpu s.cpu) := (exec_unassigned opcode s).trans runs
      refine (RunsAs.changesCpuAtOnce encodes ends).takes ?_
      cases i <;> simp only [unassignedOpcode, reduceCtorEq] at opcode <;> rfl
    · intro t _ next
      rw [exec_unassigned opcode, runs] at next
      cases next

end Sys2Proof.Machine
end

section
/-! SUPPORT. What DAA makes of a sum or a difference of packed decimals (R209), from what the rules of the
operations say. -/

namespace Sys2Proof.Machine

/-- The byte with the decimal digits of `k`, of at most two (the statement's `packed`). -/
def packedDecimal (k : Nat) : Byte := BitVec.ofNat 8 (k / 10 * 16 + k % 10)

theorem packedDecimal_toNat {k : Nat} (h : k < 100) : (packedDecimal k).toNat = k / 10 * 16 + k % 10 := by
  rw [packedDecimal, BitVec.toNat_ofNat]
  omega

theorem eq_packedDecimal {b : Byte} {k : Nat} (h : k < 100) (value : b.toNat = k / 10 * 16 + k % 10) :
    b = packedDecimal k :=
  BitVec.eq_of_toNat_eq (value.trans (packedDecimal_toNat h).symm)

theorem packed_mod (k : Nat) : (k / 10 * 16 + k % 10) % 16 = k % 10 := by
  omega

/-- DAA adds 6 where the low digits carried or passed 9, and 0x60 where the sum passed 99. -/
theorem DaaRule.afterAdd {x y : Nat} {c : Bool} {sum res : Byte} {g f : Flags} (hx : x < 100) (hy : y < 100)
    (add : AddRule (packedDecimal x) (packedDecimal y) c sum g) (daa : DaaRule sum g res f) :
    res = packedDecimal ((x + y + c.toNat) % 100) ∧ f.c = decide (100 ≤ x + y + c.toNat) := by
  obtain ⟨total, -, added, half, carry⟩ := add
  obtain ⟨low, high, lowCases, lowWhen, highCases, highWhen, adjusted, -, -, -, carryOut⟩ := daa
  rw [packedDecimal_toNat hx, packedDecimal_toNat hy] at total half carry
  simp only [added, Bool.false_eq_true, if_false, true_and] at lowWhen highWhen adjusted
  rw [half, packed_mod, packed_mod] at lowWhen
  rw [carry] at highWhen
  have hc := c.toNat_le
  have lowDigit : low = 6 ↔ 9 < x % 10 + y % 10 + c.toNat := by omega
  have passes : high = 0x60 ↔ 0x99 < x / 10 * 16 + x % 10 + (y / 10 * 16 + y % 10) + c.toNat := by omega
  have tens : x / 10 + y / 10 ≤ 8 ∨ x / 10 + y / 10 = 9 ∨ 10 ≤ x / 10 + y / 10 := by omega
  have hundreds : high = 0x60 ↔ 100 ≤ x + y + c.toNat := by
    rw [passes]
    rcases tens with below | nine | above <;> omega
  refine ⟨eq_packedDecimal (by omega) ?_, ?_⟩
  · omega
  · rw [Bool.eq_iff_iff, carryOut, hundreds, decide_eq_true_iff]

/-- DAA subtracts 6 where the low digits borrowed, and 0x60 where the difference did. -/
theorem DaaRule.afterSub {x y : Nat} {c : Bool} {diff res : Byte} {g f : Flags} (hx : x < 100) (hy : y < 100)
    (sub : SubRule (packedDecimal x) (packedDecimal y) c diff g) (daa : DaaRule diff g res f) :
    res = packedDecimal ((x + 100 - y - c.toNat) % 100) ∧ f.c = decide (x < y + c.toNat) := by
  obtain ⟨total, -, subtracted, half, borrow⟩ := sub
  obtain ⟨low, high, lowCases, lowWhen, highCases, highWhen, adjusted, -, -, -, borrowOut⟩ := daa
  rw [packedDecimal_toNat hx, packedDecimal_toNat hy] at total half borrow
  have hc := c.toNat_le
  simp only [subtracted, Bool.true_eq_false, if_true, false_and, or_false] at lowWhen highWhen adjusted
  rw [half] at lowWhen
  rw [borrow] at highWhen
  have hundreds : f.c = true ↔ x < y + c.toNat := by
    rw [borrowOut, highWhen]
    have tens : x / 10 < y / 10 ∨ x / 10 = y / 10 ∨ y / 10 < x / 10 := by omega
    rcases tens with below | same | above <;> omega
  refine ⟨eq_packedDecimal (by omega) ?_, ?_⟩
  · omega
  · rw [Bool.eq_iff_iff, hundreds, decide_eq_true_iff]

/-- Settles O28. -/
theorem daaCompletesDecimalArithmetic : Obligations.DaaCompletesDecimalArithmetic := by
  unfold Obligations.DaaCompletesDecimalArithmetic
  intro op i v x y s packed c form hx hy ha hv
  have operation : ∃ t, exec i s = .next t
      ∧ AluRule op (packedDecimal x) (packedDecimal y) s.cpu.flags t.cpu.a t.cpu.flags := by
    change s.cpu.a = packedDecimal x at ha
    change v = packedDecimal y at hv
    rw [← ha, ← hv]
    rcases form with ⟨r, rfl, rfl⟩ | ⟨rfl, rfl⟩ | rfl
    · obtain ⟨-, t, runs, -, rule, -⟩ := aluWithRegister op r s
      exact ⟨t, runs, rule⟩
    · obtain ⟨-, t, runs, -, rule, -⟩ := aluWithMemory op s
      exact ⟨t, runs, rule⟩
    · obtain ⟨-, t, runs, -, rule, -⟩ := aluWithImmediate op v s
      exact ⟨t, runs, rule⟩
  obtain ⟨t, runs, rule⟩ := operation
  obtain ⟨⟨-, u, adjusts, -, adjustment, -⟩, -⟩ := adjustAndCarry t
  refine ⟨?_, ?_⟩
  · rintro (rfl | rfl)
    · obtain ⟨digits, carry⟩ := DaaRule.afterAdd hx hy rule adjustment
      exact ⟨t, u, runs, adjusts, digits, carry⟩
    · obtain ⟨digits, carry⟩ := DaaRule.afterAdd hx hy rule adjustment
      exact ⟨t, u, runs, adjusts, digits, carry⟩
  · rintro (rfl | rfl)
    · obtain ⟨digits, borrow⟩ := DaaRule.afterSub hx hy rule adjustment
      exact ⟨t, u, runs, adjusts, digits, borrow⟩
    · obtain ⟨digits, borrow⟩ := DaaRule.afterSub hx hy rule adjustment
      exact ⟨t, u, runs, adjusts, digits, borrow⟩

end Sys2Proof.Machine
end

section
/-! SUPPORT. The timer (spec/60_exceptions.md section 5): what a TIMA increment, a timer step and a DIV write
are, and how often the watched bit falls. -/

namespace Sys2Proof.Machine

/-! ## A TIMA increment (R332) -/

theorem Timer.increment_of_pending {t : Timer} (h : t.reloadDelay ≠ 0) : t.increment = t := by
  rw [Timer.increment, if_pos (Nat.pos_of_ne_zero h)]

theorem Timer.increment_of_lt {t : Timer} (free : t.reloadDelay = 0) (h : t.tima ≠ 0xFF) :
    t.increment = { t with tima := t.tima + 1 } := by
  rw [Timer.increment, if_neg (by omega), if_neg h]

theorem Timer.increment_of_max {t : Timer} (free : t.reloadDelay = 0) (h : t.tima = 0xFF) :
    t.increment = { t with tima := 0, reloadDelay := 4 } := by
  rw [Timer.increment, if_neg (by omega), if_pos h]

/-! ## The timer step (R331) -/

/-- The watched bit falls in this step, with the timer on. -/
def Timer.Falls (t : Timer) : Prop :=
  t.tac.getLsbD 2 = true ∧ t.counter.getLsbD (timerBit t.tac) = true
    ∧ (t.counter + 4).getLsbD (timerBit t.tac) = false

theorem Timer.advance_of_falls {t : Timer} (h : t.Falls) :
    t.advance = Timer.increment { t with counter := t.counter + 4 } := by
  obtain ⟨on, was, gone⟩ := h
  unfold Timer.advance
  exact if_pos (by rw [Timer.enabled, on, was, gone]; rfl)

theorem Timer.advance_of_falls_lt {t : Timer} (h : t.Falls) (free : t.reloadDelay = 0) (below : t.tima ≠ 0xFF) :
    t.advance = { t with counter := t.counter + 4, tima := t.tima + 1 } :=
  (Timer.advance_of_falls h).trans (Timer.increment_of_lt free below)

theorem Timer.advance_of_falls_max {t : Timer} (h : t.Falls) (free : t.reloadDelay = 0) (max : t.tima = 0xFF) :
    t.advance = { t with counter := t.counter + 4, tima := 0, reloadDelay := 4 } :=
  (Timer.advance_of_falls h).trans (Timer.increment_of_max free max)

theorem Timer.advance_of_not_falls {t : Timer} (h : ¬ t.Falls) :
    t.advance = { t with counter := t.counter + 4 } := by
  unfold Timer.advance
  refine if_neg fun edge => h ?_
  simpa [Timer.Falls, Timer.enabled, and_assoc] using edge

theorem Timer.reload_of_free {t : Timer} (h : t.reloadDelay = 0) : t.reload = t := by
  obtain ⟨counter, tima, tma, tac, delay⟩ := t
  subst h
  rfl

theorem State.timerStep_timer (s : State) : s.timerStep.timer = s.timer.reload.advance := by
  unfold State.timerStep; dsimp only; split <;> rfl

theorem State.timerStep_irq (s : State) :
    s.timerStep.irq = if s.timer.closes then { s.irq with flags := s.irq.flags ||| 4 } else s.irq := by
  unfold State.timerStep; dsimp only; split <;> rfl

theorem State.timerStep_eq (s : State) :
    s.timerStep = (s.withTimer s.timerStep.timer).withIrq s.timerStep.irq := by
  unfold State.timerStep; dsimp only; split <;> rfl

/-- Settles O47. -/
theorem timerStep : Obligations.TimerStep := by
  unfold Obligations.TimerStep
  intro s delay t bit base edge
  have timer : t.timer = s.timer.reload.advance := s.timerStep_timer
  have falls : edge ↔ s.timer.reload.Falls := Iff.rfl
  have closed : s.timer.reload.reloadDelay = 0 := by
    change s.timer.reloadDelay - 4 = 0
    omega
  have closes : s.timer.closes = true ↔ s.timer.reloadDelay = 4 := by
    rcases delay with h | h <;> simp [Timer.closes, h]
  have loaded : s.timer.reload.tima = base := if_congr closes rfl rfl
  refine ⟨?_, ?_, ?_, fun still => ?_, fun counts below => ?_, fun counts max => ?_, fun window => ?_,
    fun free => ?_, s.timerStep_eq⟩
  · rw [timer, Timer.advance_counter]; rfl
  · rw [timer, Timer.advance_tma]; rfl
  · rw [timer, Timer.advance_tac]; rfl
  · rw [timer, Timer.advance_of_not_falls (mt falls.2 still)]
    exact ⟨loaded, closed⟩
  · rw [← loaded] at below ⊢
    rw [timer, Timer.advance_of_falls_lt (falls.1 counts) closed below]
    exact ⟨rfl, closed⟩
  · rw [← loaded] at max
    rw [timer, Timer.advance_of_falls_max (falls.1 counts) closed max]
    exact ⟨rfl, rfl⟩
  · exact s.timerStep_irq.trans (if_pos (closes.2 window))
  · exact s.timerStep_irq.trans (if_neg fun h => by have := closes.1 h; omega)

/-! ## The rate (R338) -/

theorem timerBit_cases (tac : BitVec 3) :
    timerBit tac = 9 ∨ timerBit tac = 3 ∨ timerBit tac = 5 ∨ timerBit tac = 7 := by
  revert tac; decide

/-- The clock cycles between two falls of the watched bit. -/
def timerPeriod (tac : BitVec 3) : Nat := 2 ^ (timerBit tac + 1)

/-- The watched bit falls where the counter comes to a multiple of the period. -/
theorem Timer.falls_iff {t : Timer} (on : t.tac.getLsbD 2 = true) (aligned : t.counter.toNat % 4 = 0) :
    t.Falls ↔ (t.counter.toNat + 4) % timerPeriod t.tac = 0 := by
  rw [Timer.Falls, and_iff_right on]
  simp only [BitVec.getLsbD, Nat.testBit_eq_decide_div_mod_eq, decide_eq_true_iff,
    decide_eq_false_iff_not, BitVec.toNat_add, BitVec.ofNat_eq_ofNat, BitVec.toNat_ofNat, timerPeriod]
  rcases timerBit_cases t.tac with h | h | h | h <;> rw [h] <;> norm_num <;> omega

/-- `n` steps bring the counter to a multiple of the period once in every period. -/
theorem div_timerPeriod_step (tac : BitVec 3) {m : Nat} (aligned : m % 4 = 0) :
    (m + 4) / timerPeriod tac = m / timerPeriod tac + if (m + 4) % timerPeriod tac = 0 then 1 else 0 := by
  unfold timerPeriod
  rcases timerBit_cases tac with h | h | h | h <;> rw [h] <;> norm_num <;> split <;> omega

theorem timerPeriod_dvd (tac : BitVec 3) : timerPeriod tac ∣ 65536 ∧ 4 ∣ timerPeriod tac := by
  revert tac; decide

/-- Where the timer stands after `n` steps in which TIMA does not overflow. -/
structure Timer.CountedFrom (t u : Timer) (n : Nat) : Prop where
  tac     : u.tac = t.tac
  counter : u.counter.toNat = (t.counter.toNat + 4 * n) % 65536
  free    : u.reloadDelay = 0
  tima    : u.tima.toNat
    = t.tima.toNat + (t.counter.toNat % timerPeriod t.tac + 4 * n) / timerPeriod t.tac

theorem Timer.CountedFrom.step {t u : Timer} {n : Nat} (h : t.CountedFrom u n) (on : t.tac.getLsbD 2 = true)
    (aligned : t.counter.toNat % 4 = 0)
    (room : t.tima.toNat + (t.counter.toNat % timerPeriod t.tac + 4 * (n + 1)) / timerPeriod t.tac ≤ 0xFF) :
    t.CountedFrom u.reload.advance (n + 1) := by
  obtain ⟨tac, counter, free, tima⟩ := h
  have still : u.reload = u := Timer.reload_of_free free
  obtain ⟨dvd, four⟩ := timerPeriod_dvd t.tac
  have alignedNow : (t.counter.toNat % timerPeriod t.tac + 4 * n) % 4 = 0 := by
    rw [Nat.add_mod, Nat.mod_mod_of_dvd _ four, aligned]
    omega
  have counts := div_timerPeriod_step t.tac alignedNow
  have falls : u.Falls ↔ (t.counter.toNat % timerPeriod t.tac + 4 * n + 4) % timerPeriod t.tac = 0 := by
    rw [Timer.falls_iff (tac ▸ on) (by omega), tac, counter, Nat.add_mod, Nat.mod_mod_of_dvd _ dvd,
      ← Nat.add_mod, Nat.add_assoc (_ % _), Nat.mod_add_mod, ← Nat.add_assoc]
  rw [Nat.mul_add, ← Nat.add_assoc, counts] at room
  have next : (u.counter + 4).toNat = (t.counter.toNat + 4 * (n + 1)) % 65536 := by
    rw [BitVec.toNat_add, counter]
    simp only [BitVec.ofNat_eq_ofNat, BitVec.toNat_ofNat]
    omega
  rw [still]
  by_cases edge : u.Falls
  · rw [if_pos (falls.1 edge)] at counts room
    have below : u.tima ≠ 0xFF := by
      intro max
      rw [max] at tima
      simp at tima
      omega
    rw [Timer.advance_of_falls_lt edge free below]
    refine ⟨tac, next, free, ?_⟩
    rw [Nat.mul_add, ← Nat.add_assoc, counts]
    have := u.tima.isLt
    simp only [BitVec.toNat_add, BitVec.ofNat_eq_ofNat, BitVec.toNat_ofNat]
    omega
  · rw [if_neg (mt falls.2 edge)] at counts
    rw [Timer.advance_of_not_falls edge]
    refine ⟨tac, next, free, ?_⟩
    rw [Nat.mul_add, ← Nat.add_assoc, counts]
    exact tima

/-- Settles O48, by induction on the number of steps. -/
theorem timerRate : Obligations.TimerRate := by
  unfold Obligations.TimerRate
  intro s n period on aligned free room
  have same : period = timerPeriod s.timer.tac := by
    have table : ∀ tac : BitVec 3,
        (match tac.toNat % 4 with | 0 => 1024 | 1 => 16 | 2 => 64 | _ => 256) = timerPeriod tac := by decide
    exact table s.timer.tac
  rw [same] at room ⊢
  suffices counted : s.timer.CountedFrom (State.timerStep^[n] s).timer n from counted.tima
  induction n with
  | zero => exact ⟨rfl, (Nat.mod_eq_of_lt s.timer.counter.isLt).symm, free, by simp⟩
  | succ n ih =>
    have earlier : (s.timer.counter.toNat % timerPeriod s.timer.tac + 4 * n) / timerPeriod s.timer.tac
        ≤ (s.timer.counter.toNat % timerPeriod s.timer.tac + 4 * (n + 1)) / timerPeriod s.timer.tac :=
      Nat.div_le_div_right (by omega)
    rw [Function.iterate_succ_apply', State.timerStep_timer]
    exact (ih (by omega)).step on aligned room

/-! ## A DIV write (R334) -/

theorem State.busWrite_div (s : State) (v : Byte) : s.busWrite 0xFF04 v = s.withTimer s.timer.divWrite :=
  s.busWrite_reg v (n := 0xFF04) (r := .div) (extra := false) (by decide) nofun

/-- Settles O49. -/
theorem dividerWrite : Obligations.DividerWrite := by
  unfold Obligations.DividerWrite
  intro s v t bit counts
  have write : t = s.withTimer s.timer.divWrite := s.busWrite_div v
  have timer : t.timer = s.timer.divWrite := congrArg State.timer write
  have watched : (s.timer.enabled && s.timer.counter.getLsbD (timerBit s.timer.tac)) = true ↔
      s.timer.tac.getLsbD 2 = true ∧ s.timer.counter.getLsbD bit = true := Bool.and_eq_true_iff
  have counting (h : counts) : s.timer.divWrite = { s.timer.increment with counter := 0 } := by
    rw [Timer.divWrite, if_pos (watched.2 ⟨h.1, h.2.1⟩)]
  have idle (h : ¬ counts) : s.timer.divWrite = { s.timer with counter := 0 } := by
    unfold Timer.divWrite
    split
    next watches =>
      obtain ⟨on, was⟩ := watched.1 watches
      rw [Timer.increment_of_pending fun free => h ⟨on, was, free⟩]
    · rfl
  refine ⟨write.trans (by rw [timer]), ?_, ?_, ?_, fun still => ?_, fun h below => ?_, fun h max => ?_⟩
  · rw [timer, Timer.divWrite]
  · rw [timer, Timer.divWrite]; dsimp only; split <;> simp
  · rw [timer, Timer.divWrite]; dsimp only; split <;> simp
  · rw [timer, idle still]
    exact ⟨rfl, rfl⟩
  · rw [timer, counting h, Timer.increment_of_lt h.2.2 below]
    exact ⟨rfl, h.2.2⟩
  · rw [timer, counting h, Timer.increment_of_max h.2.2 max]
    exact ⟨rfl, rfl⟩

end Sys2Proof.Machine
end

section
/-! SUPPORT. The PPU's scanline timing (spec/60_exceptions.md section 8): the position in the frame, the mode it
gives, and what each part of a PPU step does to the PPU and to the interrupt flags. -/

namespace Sys2Proof.Machine

/-! ## The STAT line (R360) -/

theorem State.updateStatLine_irq (s : State) :
    s.updateStatLine.irq
      = if s.ppu.statLevel && !s.ppu.statLine then { s.irq with flags := s.irq.flags ||| 2 } else s.irq := by
  unfold State.updateStatLine; dsimp only; split <;> rfl

theorem State.updateStatLine_eq (s : State) :
    s.updateStatLine
      = (s.withPpu { s.ppu with statLine := s.updateStatLine.ppu.statLine }).withIrq s.updateStatLine.irq := by
  unfold State.updateStatLine; dsimp only; split <;> rfl

theorem Ppu.statLevel_iff (p : Ppu) :
    p.statLevel = true ↔ (p.ly = p.lyc ∧ p.statEn.getLsbD 3 = true)
      ∨ (p.mode = .hblank ∧ p.statEn.getLsbD 0 = true)
      ∨ (p.mode = .vblank ∧ (p.statEn.getLsbD 1 = true ∨ p.statEn.getLsbD 2 = true))
      ∨ (p.mode = .oamScan ∧ p.statEn.getLsbD 2 = true) := by
  simp [Ppu.statLevel, or_assoc]

/-- Settles O50. -/
theorem statLineEdge : Obligations.StatLineEdge := by
  unfold Obligations.StatLineEdge
  intro s t line
  have level : s.ppu.statLevel = true ↔ line := s.ppu.statLevel_iff
  have rises : (s.ppu.statLevel && !s.ppu.statLine) = true ↔ line ∧ s.ppu.statLine = false := by
    rw [Bool.and_eq_true, level, Bool.not_eq_true']
  refine ⟨?_, fun edge => ?_, fun none => ?_, s.updateStatLine_eq⟩
  · rw [← level, State.updateStatLine_ppu]
  · exact s.updateStatLine_irq.trans (if_pos (rises.2 edge))
  · exact s.updateStatLine_irq.trans (if_neg (mt rises.1 none))

/-! ## The parts of a PPU step (R352, R353) -/

/-- The length a step leaves latched. -/
def State.latchedLength (s : State) : Nat :=
  if s.ppu.leavesOamScan then s.pixelTransferLength else s.ppu.len3

theorem State.latchLength_eq (s : State) : s.latchLength = s.withPpu { s.ppu with len3 := s.latchedLength } := by
  unfold State.latchLength State.latchedLength
  split <;> rfl

theorem State.changeMode_ppu (s : State) (m : Mode) : (s.changeMode m).ppu = { s.ppu with mode := m } := by
  unfold State.changeMode
  split
  next same => rw [same]
  next => cases m <;> rfl

/-- Source 0 is requested exactly on entering VBlank (R356). -/
theorem State.changeMode_vblank_request (s : State) (m : Mode) :
    (s.changeMode m).irq.flags.getLsbD 0 = true ↔
      s.irq.flags.getLsbD 0 = true ∨ (m = .vblank ∧ s.ppu.mode ≠ .vblank) := by
  have set : ∀ f : BitVec 5, (f ||| sourceMask 0).getLsbD 0 = true := by decide
  unfold State.changeMode
  split
  next same => rw [← same]; tauto
  next other =>
    cases m
    case vblank => exact iff_of_true (set _) (.inr ⟨rfl, Ne.symm other⟩)
    all_goals exact ⟨.inl, fun h => h.resolve_right nofun⟩

theorem State.updateStatLine_flags_zero (s : State) :
    s.updateStatLine.irq.flags.getLsbD 0 = s.irq.flags.getLsbD 0 := by
  have other : ∀ f : BitVec 5, (f ||| 2).getLsbD 0 = f.getLsbD 0 := by decide
  rw [State.updateStatLine_irq]
  split
  · exact other _
  · rfl

/-- The state of a step with the LCD on before the mode changes: the position moved on, the length latched. -/
def State.advancePpu (s : State) : State := (s.withPpu s.ppu.advance).latchLength

theorem State.advancePpu_ppu (s : State) : s.advancePpu.ppu
    = { s.ppu.advance with len3 := (s.withPpu s.ppu.advance).latchedLength } := by
  rw [State.advancePpu, State.latchLength_eq]
  rfl

theorem State.advancePpu_irq (s : State) : s.advancePpu.irq = s.irq := by
  rw [State.advancePpu, State.latchLength_eq]
  rfl

theorem State.ppuStep_of_on {s : State} (on : s.ppu.lcdOn = true) :
    s.ppuStep = (s.advancePpu.changeMode s.ppu.advance.nextMode).updateStatLine := by
  unfold State.ppuStep
  exact if_pos on

theorem State.ppuStep_of_off {s : State} (off : s.ppu.lcdOn = false) :
    s.ppuStep = (s.withPpu s.ppu.off).updateStatLine := by
  unfold State.ppuStep
  exact if_neg (by rw [off]; exact Bool.false_ne_true)

/-- What a step with the LCD on leaves in the PPU, but for the STAT line. -/
theorem State.ppuStep_ppu_of_on {s : State} (on : s.ppu.lcdOn = true) :
    ∃ line, s.ppuStep.ppu = { s.ppu.advance with
      len3 := (s.withPpu s.ppu.advance).latchedLength
      mode := s.ppu.advance.nextMode
      statLine := line } := by
  rw [State.ppuStep_of_on on, State.updateStatLine_ppu, State.changeMode_ppu, State.advancePpu_ppu]
  exact ⟨_, rfl⟩

/-! ## The position in the frame (R352, R362) -/

/-- Clock cycles since the start of the frame. -/
def Ppu.position (p : Ppu) : Nat := p.ly.toNat * 456 + p.dot

/-- A position the counters can have. -/
def Ppu.InFrame (p : Ppu) : Prop := p.ly.toNat < 154 ∧ p.dot < 456

theorem Ppu.advance_of_inLine {p : Ppu} (h : p.dot + 4 < 456) : p.advance = { p with dot := p.dot + 4 } := by
  unfold Ppu.advance
  exact if_neg (by omega)

theorem Ppu.advance_of_lineEnd {p : Ppu} (h : 456 ≤ p.dot + 4) : p.advance =
    { p with dot := p.dot + 4 - 456, ly := BitVec.ofNat 8 ((p.ly.toNat + 1) % 154) } := by
  unfold Ppu.advance
  exact if_pos h

theorem Ppu.advance_lcdc (p : Ppu) : p.advance.lcdc = p.lcdc := by
  unfold Ppu.advance; split <;> rfl

theorem Ppu.InFrame.advance {p : Ppu} (h : p.InFrame) :
    p.advance.InFrame ∧ p.advance.position = (p.position + 4) % 70224 := by
  obtain ⟨line, dot⟩ := h
  by_cases inLine : p.dot + 4 < 456
  · rw [Ppu.advance_of_inLine inLine]
    exact ⟨⟨line, inLine⟩, by simp only [Ppu.position]; omega⟩
  · rw [Ppu.advance_of_lineEnd (by omega)]
    simp only [Ppu.InFrame, Ppu.position, BitVec.toNat_ofNat]
    omega

/-- Settles O51, by induction on the number of steps. -/
theorem framePosition : Obligations.FramePosition := by
  unfold Obligations.FramePosition
  intro s n ok on
  obtain ⟨line, dot, -⟩ := ok
  suffices moved : (State.ppuStep^[n] s).ppu.InFrame ∧ (State.ppuStep^[n] s).ppu.lcdc = s.ppu.lcdc
      ∧ (State.ppuStep^[n] s).ppu.position = (s.ppu.position + 4 * n) % 70224 by
    obtain ⟨⟨-, inLine⟩, lcdc, position⟩ := moved
    exact ⟨position, inLine, lcdc⟩
  induction n with
  | zero =>
    refine ⟨⟨line, dot⟩, rfl, ?_⟩
    simp only [Function.iterate_zero, id, Ppu.position]
    omega
  | succ n ih =>
    obtain ⟨inFrame, lcdc, position⟩ := ih
    rw [Function.iterate_succ_apply']
    generalize State.ppuStep^[n] s = u at *
    obtain ⟨stat, ppu⟩ := State.ppuStep_ppu_of_on (s := u) (by rw [Ppu.lcdOn, lcdc]; exact on)
    obtain ⟨inFrame', position'⟩ := inFrame.advance
    rw [ppu]
    refine ⟨inFrame', u.ppu.advance_lcdc.trans lcdc, position'.trans ?_⟩
    omega

/-! ## The mode (R353, R354, R356) -/

/-- The mode a step with the LCD on may start from: the one of its position, or HBlank at the very start of the
frame, where the LCD was just turned on. -/
def Ppu.StepsFrom (p : Ppu) : Prop :=
  p.InFrame ∧ p.dot % 4 = 0
    ∧ (p.mode = modeAt p.ly.toNat p.dot p.len3 ∨ p.mode = .hblank ∧ p.ly = 0 ∧ p.dot = 0)

theorem modeAt_eq_vblank {ly dot len3 : Nat} : modeAt ly dot len3 = .vblank ↔ 144 ≤ ly := by
  unfold modeAt
  split_ifs <;> simp [*]

theorem modeAt_eq_oamScan {ly dot len3 : Nat} : modeAt ly dot len3 = .oamScan ↔ ly < 144 ∧ dot < 80 := by
  unfold modeAt
  split_ifs <;> simp <;> omega

theorem Ppu.leavesOamScan_iff (p : Ppu) :
    p.leavesOamScan = true ↔ p.ly.toNat < 144 ∧ 80 ≤ p.dot ∧ p.mode = .oamScan := by
  simp [Ppu.leavesOamScan, and_assoc]

theorem Ppu.nextMode_eq_vblank (p : Ppu) : p.nextMode = .vblank ↔ 144 ≤ p.ly.toNat := by
  unfold Ppu.nextMode
  split_ifs <;> simp [*]

theorem Ppu.advance_mode (p : Ppu) : p.advance.mode = p.mode := by
  unfold Ppu.advance; split <;> rfl

theorem Ppu.advance_len3 (p : Ppu) : p.advance.len3 = p.len3 := by
  unfold Ppu.advance; split <;> rfl

/-- The step leaves OamScan exactly when it comes to dot 80 of a visible line. -/
theorem Ppu.StepsFrom.leavesOamScan {p : Ppu} (h : p.StepsFrom) :
    p.advance.leavesOamScan = true ↔ p.advance.dot = 80 ∧ p.advance.ly.toNat < 144 := by
  obtain ⟨⟨line, dot⟩, aligned, mode⟩ := h
  rw [Ppu.leavesOamScan_iff, Ppu.advance_mode]
  by_cases inLine : p.dot + 4 < 456
  · rw [Ppu.advance_of_inLine inLine]
    rcases mode with mode | ⟨mode, -, start⟩
    · rw [mode, modeAt_eq_oamScan]
      dsimp only
      omega
    · rw [mode]
      dsimp only
      simp [start]
  · rw [Ppu.advance_of_lineEnd (by omega)]
    dsimp only
    omega

/-- The mode after a step is the one of the new position. -/
theorem Ppu.StepsFrom.nextMode {p : Ppu} (h : p.StepsFrom) {len3 : Nat}
    (long : p.advance.leavesOamScan = true → 0 < len3)
    (kept : p.advance.leavesOamScan = false → len3 = p.len3) :
    p.advance.nextMode = modeAt p.advance.ly.toNat p.advance.dot len3 := by
  have leaves := h.leavesOamScan
  unfold Ppu.nextMode modeAt
  by_cases vblank : 144 ≤ p.advance.ly.toNat
  · rw [if_pos vblank, if_pos vblank]
  rw [if_neg vblank, if_neg vblank]
  by_cases scan : p.advance.dot < 80
  · rw [if_pos scan, if_pos scan]
  rw [if_neg scan, if_neg scan]
  cases left : p.advance.leavesOamScan
  case true =>
    obtain ⟨-, -, mode⟩ := p.advance.leavesOamScan_iff.1 left
    have short : p.advance.dot < 80 + len3 := by
      have := long left
      have := leaves.1 left
      omega
    rw [mode, if_pos (by rfl), if_pos short]
  case false =>
    have mode : p.advance.mode ≠ .oamScan := fun mode => by
      rw [p.advance.leavesOamScan_iff.2 ⟨by omega, by omega, mode⟩] at left
      cases left
    rw [if_neg (by simpa using mode), kept left, Ppu.advance_len3]

/-- A step enters VBlank exactly when it comes to the start of line 144. -/
theorem Ppu.StepsFrom.entersVblank {p : Ppu} (h : p.StepsFrom) :
    p.advance.nextMode = .vblank ∧ p.advance.mode ≠ .vblank ↔ p.advance.ly = 144 ∧ p.advance.dot = 0 := by
  obtain ⟨⟨line, dot⟩, aligned, mode⟩ := h
  have before : p.mode ≠ .vblank ↔ p.ly.toNat < 144 := by
    rcases mode with mode | ⟨mode, start, -⟩
    · rw [mode, ne_eq, modeAt_eq_vblank, not_le]
    · exact iff_of_true (by rw [mode]; nofun) (by rw [start]; decide)
  rw [Ppu.nextMode_eq_vblank, Ppu.advance_mode, before, BitVec.toNat_eq]
  by_cases inLine : p.dot + 4 < 456
  · rw [Ppu.advance_of_inLine inLine]
    dsimp only
    omega
  · rw [Ppu.advance_of_lineEnd (by omega)]
    simp only [BitVec.ofNat_eq_ofNat, BitVec.toNat_ofNat]
    omega

/-- In the step to dot 80 the line stays the same, so the length comes from the state before the step. -/
theorem State.pixelTransferLength_advance {s : State} (inFrame : s.ppu.InFrame) (h : s.ppu.advance.dot = 80) :
    (s.withPpu s.ppu.advance).pixelTransferLength = s.pixelTransferLength := by
  obtain ⟨-, dot⟩ := inFrame
  have inLine : s.ppu.dot + 4 < 456 := by
    by_contra lineEnd
    rw [Ppu.advance_of_lineEnd (by omega)] at h
    dsimp only at h
    omega
  rw [Ppu.advance_of_inLine inLine]
  rfl

theorem State.spriteOnLine_eq (s : State) : s.spriteOnLine = fun i =>
    decide ((s.mem.read (0xFE00 + 4 * i)).toNat ≤ s.ppu.ly.toNat + 16 ∧ s.ppu.ly.toNat + 16
      < (s.mem.read (0xFE00 + 4 * i)).toNat + if s.ppu.lcdc.getLsbD 2 then 16 else 8) := by
  funext i
  rw [Bool.decide_and]
  rfl

/-- Settles O52. -/
theorem ppuStepMode : Obligations.PpuStepMode := by
  unfold Obligations.PpuStepMode
  intro s t height onLine turnedOn
  refine ⟨fun on before => ?_, fun off => ?_⟩
  · have steps : s.ppu.StepsFrom := by
      rcases before with ⟨line, dot, aligned, -, -, mode, -, -⟩ | ⟨mode, line, dot⟩
      · exact ⟨⟨line, dot⟩, aligned, .inl (mode on)⟩
      · exact ⟨⟨by rw [line]; decide, by omega⟩, by omega, .inr ⟨mode, line, dot⟩⟩
    obtain ⟨line, ppu⟩ : ∃ line, t.ppu = _ := State.ppuStep_ppu_of_on on
    have irq : t.irq.flags.getLsbD 0 = true ↔ s.irq.flags.getLsbD 0 = true
        ∨ s.ppu.advance.nextMode = .vblank ∧ s.ppu.advance.mode ≠ .vblank := by
      change s.ppuStep.irq.flags.getLsbD 0 = true ↔ _
      rw [State.ppuStep_of_on on, State.updateStatLine_flags_zero, State.changeMode_vblank_request,
        State.advancePpu_irq, State.advancePpu_ppu]
    have latched : s.ppu.advance.leavesOamScan = true → (s.withPpu s.ppu.advance).latchedLength
        = (s.withPpu s.ppu.advance).pixelTransferLength := fun left => if_pos left
    have kept : s.ppu.advance.leavesOamScan = false → (s.withPpu s.ppu.advance).latchedLength = s.ppu.len3 :=
      fun stays => (if_neg (Bool.not_eq_true _ ▸ stays)).trans s.ppu.advance_len3
    have positive (left : s.ppu.advance.leavesOamScan = true) : 0 < (s.withPpu s.ppu.advance).latchedLength := by
      have := (s.withPpu s.ppu.advance).pixelTransferLength_range
      rw [latched left]
      omega
    rw [ppu]
    refine ⟨steps.nextMode positive kept, fun latch => ?_, fun keeps => ?_,
      irq.trans (or_congr_right steps.entersVblank)⟩
    · rw [latched (steps.leavesOamScan.2 latch), State.pixelTransferLength_advance steps.1 latch.1,
        State.pixelTransferLength, State.spritesOnLine, State.spriteOnLine_eq]
    · exact kept (by simpa using mt steps.leavesOamScan.1 keeps)
  · have step : t = (s.withPpu s.ppu.off).updateStatLine := State.ppuStep_of_off off
    rw [step, State.updateStatLine_ppu, State.updateStatLine_flags_zero]
    exact ⟨rfl, rfl, rfl, rfl, rfl⟩

end Sys2Proof.Machine
end

section
/-! SUPPORT. The host's keys (R60, R375) and the values after reset (R68). -/

namespace Sys2Proof.Machine

/-! ## Keys -/

/-- The number of the key's bit in its group (R60). -/
def keyIndex : Key → Fin 4
  | .right | .a => 0
  | .left | .b => 1
  | .up | .select => 2
  | .down | .start => 3

theorem or_keyBit (k : Key) (g : BitVec 4) (j : Fin 4) :
    (g ||| keyBit k).getLsbD j = (decide (keyIndex k = j) || g.getLsbD j) := by
  cases k <;> revert g j <;> decide

theorem and_not_keyBit (k : Key) (g : BitVec 4) (j : Fin 4) :
    (g &&& ~~~(keyBit k)).getLsbD j = (!decide (keyIndex k = j) && g.getLsbD j) := by
  cases k <;> revert g j <;> decide

theorem some_keyIndex_beq (k : Key) (j : Fin 4) :
    (some (keyIndex k).val == some j.val) = decide (keyIndex k = j) := by
  exact decide_eq_decide.2 Fin.ext_iff.symm

theorem State.setKey_of_dpad (s : State) {k : Key} (held : Bool) (h : keyIsDpad k = true) :
    s.setKey k held = s.withIo { s.io with
      keysDpad := if held then s.io.keysDpad ||| keyBit k else s.io.keysDpad &&& ~~~(keyBit k) } :=
  if_pos h

theorem State.setKey_of_button (s : State) {k : Key} (held : Bool) (h : keyIsDpad k = false) :
    s.setKey k held = s.withIo { s.io with
      keysBtn := if held then s.io.keysBtn ||| keyBit k else s.io.keysBtn &&& ~~~(keyBit k) } :=
  if_neg (by rw [h]; exact Bool.false_ne_true)

theorem State.setKey_irq (s : State) (k : Key) (held : Bool) : (s.setKey k held).irq = s.irq := by
  unfold State.setKey; dsimp only; split <;> rfl

theorem State.keyDown_io (s : State) (k : Key) : (s.hostEvent (.keyDown k)).io = (s.setKey k true).io := by
  simp only [State.hostEvent]
  split <;> rfl

theorem State.keyDown_cpu (s : State) (k : Key) : (s.hostEvent (.keyDown k)).cpu = s.cpu := by
  simp only [State.hostEvent]
  split
  · exact s.setKey_cpu k true
  · exact s.setKey_cpu k true

theorem State.keyDown_irq (s : State) (k : Key) : (s.hostEvent (.keyDown k)).irq
    = if s.params.keyIrq == .selected && s.keySelected k then { s.irq with flags := s.irq.flags ||| 0x10 }
      else s.irq := by
  simp only [State.hostEvent]
  split
  · rw [← s.setKey_irq k true]; rfl
  · exact s.setKey_irq k true

/-- Settles O57. -/
theorem hostKeys : Obligations.HostKeys := by
  unfold Obligations.HostKeys
  intro s k down up dpad btn
  have dpadKey : dpad = if keyIsDpad k then some (keyIndex k).val else none := by cases k <;> rfl
  have btnKey : btn = if keyIsDpad k then none else some (keyIndex k).val := by cases k <;> rfl
  have irq : down.irq = _ := s.keyDown_irq k
  refine ⟨fun j => ?_, s.setKey_irq k false, s.keyDown_cpu k, s.setKey_cpu k false, fun policy => ?_,
    fun policy => ?_, ?_⟩
  · have pressed : down.io = _ := s.keyDown_io k
    have released : up = s.setKey k false := rfl
    have press (g : BitVec 4) := (or_keyBit k g j).trans (congrArg (· || _) (some_keyIndex_beq k j).symm)
    have release (g : BitVec 4) := (and_not_keyBit k g j).trans (congrArg (!· && _) (some_keyIndex_beq k j).symm)
    rw [pressed, released, dpadKey, btnKey]
    cases group : keyIsDpad k
    · rw [s.setKey_of_button _ group, s.setKey_of_button _ group]
      exact ⟨rfl, press _, rfl, release _⟩
    · rw [s.setKey_of_dpad _ group, s.setKey_of_dpad _ group]
      exact ⟨press _, rfl, release _, rfl⟩
  · rw [irq, policy, dpadKey, State.keySelected]
    cases keyIsDpad k
    · cases s.io.joySelect.getLsbD 1 <;> rfl
    · cases s.io.joySelect.getLsbD 0 <;> rfl
  · rw [irq, if_neg (by simp [policy])]
  · simp only [State.hostEvent, beq_iff_eq]
    split <;> rfl

/-! ## Reset -/

/-! The register pairs after a reset without a boot image -/

theorem Cpu.resetWith_base_pairs : let base := Cpu.resetWith { Params.default with enhanced := false }
    base.af = 0x01B0 ∧ base.bc = 0x0013 ∧ base.de = 0x00D8 ∧ base.hl = 0x014D := by
  decide

theorem Cpu.resetWith_enhanced_pairs : let extra := Cpu.resetWith { Params.default with enhanced := true }
    extra.af = 0x1180 ∧ extra.bc = 0x0000 ∧ extra.de = 0xFF56 ∧ extra.hl = 0x000D := by
  decide

/-- Settles O58: the values for each boot image and machine. -/
theorem resetValues : Obligations.ResetValues := by
  unfold Obligations.ResetValues
  intro p s
  obtain ⟨enhanced, boot, undefinedPolicy, keyIrq, audioStepped, roundsUp⟩ := p
  refine ⟨fun image => ?_, fun none => ?_, ?_⟩
  · obtain ⟨bytes, rfl⟩ := Option.isSome_iff_exists.1 image
    exact ⟨rfl, rfl, rfl, rfl, rfl⟩
  · subst none
    cases enhanced
    · exact ⟨rfl, rfl, rfl, rfl, rfl, rfl, fun _ => Cpu.resetWith_base_pairs, nofun⟩
    · refine ⟨rfl, rfl, rfl, rfl, rfl, rfl, nofun, fun _ => ?_⟩
      obtain ⟨af, bc, de, hl⟩ := Cpu.resetWith_enhanced_pairs
      exact ⟨af, bc, de, hl, rfl⟩
  · cases boot <;> cases enhanced <;> and_intros <;> rfl

end Sys2Proof.Machine
end

section
/-! SUPPORT. An OAM DMA transfer (spec/60_exceptions.md section 6), as what it has copied after each step. -/

namespace Sys2Proof.Machine

/-! ## What an access without blocking reads (R74) -/

theorem State.rawRead_cell {s : State} {a : Word} {k : Nat} (who : Agent) (h : s.routedCell a = some k) :
    s.rawRead who a = s.mem.read k := by
  unfold State.routedCell at h
  unfold State.rawRead
  cases route : s.route a <;> rw [route] at h <;> cases h <;> rfl

/-- A raw read looks at one cell of memory, at a register or at nothing stored. -/
theorem State.rawRead_congr {s t : State} {a : Word} (who : Agent) (params : t.params = s.params)
    (io : t.io = s.io) (ie : t.irq.ie = s.irq.ie)
    (registers : s.route a = .io → ∀ r, t.ioRead who r = s.ioRead who r)
    (cell : ∀ j, s.routedCell a = some j → t.mem.read j = s.mem.read j)
    (rom : a.toNat < 0x8000 → t.mem.read a.toNat = s.mem.read a.toNat) :
    t.rawRead who a = s.rawRead who a := by
  have routes : t.route a = s.route a := by
    simp only [State.route, State.vramBank, State.wramBank, params, io]
  have reaches {j : Nat} (h : s.routedCell a = some j) : t.rawRead who a = s.rawRead who a := by
    have same : t.routedCell a = s.routedCell a := by
      unfold State.routedCell
      rw [routes]
    rw [State.rawRead_cell who h, State.rawRead_cell who (same.trans h)]
    exact cell j h
  unfold State.routedCell at reaches
  cases route : s.route a <;> rw [route] at reaches
  case vram | wram | oam | hram => exact reaches rfl
  all_goals
    unfold State.rawRead
    rw [routes, route]
  case rom =>
    have low := State.lt_of_route_rom route
    simp only [State.romRead, params, io, rom low]
  case io =>
    dsimp only
    rw [params]
    cases ioRegAt s.params.enhanced a
    · rfl
    · exact registers route _
  case ie => exact ie

/-! ## The copies -/

/-- The source address of byte `k` of the page. -/
def OamDma.sourceOf (d : OamDma) (k : Nat) : Word := joinBytes d.page 0 + BitVec.ofNat 16 k

theorem OamDma.sourceOf_toNat (d : OamDma) {k : Nat} (h : k < 160) :
    (d.sourceOf k).toNat = d.page.toNat * 256 + k := by
  have page : (joinBytes d.page 0).toNat = d.page.toNat * 256 := by
    rw [joinBytes_toNat]
    exact Nat.add_zero _
  have := d.page.isLt
  rw [OamDma.sourceOf, BitVec.toNat_add, page, BitVec.toNat_ofNat]
  omega

/-- `t` differs from `s` in what OAM DMA has done: the bytes `k` with `P k` of the page are copied. -/
structure State.OamCopied (s : State) (P : Nat → Prop) (t : State) : Prop where
  only : t = (s.withMem t.mem).withDma t.dma
  page : t.dma.page = s.dma.page
  wf   : t.mem.wf
  read : ∀ k, k < 160 → P k → t.mem.read (0xFE00 + k) = s.rawRead .oamDma (s.dma.sourceOf k)
  rest : ∀ c, (∀ k, k < 160 → P k → c ≠ 0xFE00 + k) → t.mem.read c = s.mem.read c

namespace State.OamCopied
variable {s t : State} {P Q : Nat → Prop}

theorem congr (h : s.OamCopied P t) (same : ∀ k, k < 160 → (P k ↔ Q k)) : s.OamCopied Q t where
  only := h.only
  page := h.page
  wf := h.wf
  read k hk q := h.read k hk ((same k hk).2 q)
  rest c free := h.rest c fun k hk p => free k hk ((same k hk).1 p)

theorem withDma (h : s.OamCopied P t) {d : OamDma} (page : d.page = t.dma.page) :
    s.OamCopied P (t.withDma d) where
  only := by rw [h.only]; rfl
  page := page.trans h.page
  wf := h.wf
  read := h.read
  rest := h.rest

/-- The page is read as it was at the start: where it is OAM itself, its bytes are copied onto themselves. -/
theorem source (h : s.OamCopied P t) {k : Nat} (hk : k < 160) :
    t.rawRead .oamDma (s.dma.sourceOf k) = s.rawRead .oamDma (s.dma.sourceOf k) := by
  have address := s.dma.sourceOf_toNat hk
  have registers (r : IoReg) : t.ioRead .oamDma r = s.ioRead .oamDma r := by
    rw [h.only]
    cases r
    case dma => exact h.page
    all_goals rfl
  refine State.rawRead_congr _ (by rw [h.only]; rfl) (by rw [h.only]; rfl) (by rw [h.only]; rfl)
    (fun _ => registers) (fun j cell => ?_) fun rom => ?_
  · by_cases hit : ∃ k', k' < 160 ∧ P k' ∧ j = 0xFE00 + k'
    · obtain ⟨k', hk', copied, rfl⟩ := hit
      have same : k' = k := by
        have at_ := State.routedCell_eq_some.1 cell
        have vram := s.vramBank_le
        have wram := s.wramBank_range
        unfold vramCell wramCell at at_
        split at at_ <;> omega
      subst same
      rw [h.read k' hk copied, State.rawRead_cell _ cell]
    · refine h.rest j fun k' hk' copied miss => hit ⟨k', hk', copied, miss⟩
  · exact h.rest _ fun k' hk' _ => by omega

theorem dmaCopyOne (h : s.OamCopied P t) :
    s.OamCopied (fun k => P k ∨ k = t.dma.index) t.dmaCopyOne := by
  unfold State.dmaCopyOne
  by_cases inPage : t.dma.index < 160
  · rw [if_pos inPage]
    have byte : t.rawRead .oamDma t.dma.source = s.rawRead .oamDma (s.dma.sourceOf t.dma.index) := by
      rw [← h.source inPage, OamDma.sourceOf, ← h.page]
      rfl
    rw [byte]
    refine ⟨by rw [h.only]; rfl, h.page, Memory.write_wf h.wf _ _, fun k hk copied => ?_, fun c free => ?_⟩
    · by_cases now : k = t.dma.index
      · rw [now]
        exact Memory.read_write_self h.wf _ _
      · refine (Memory.read_write_other _ _ ?_).trans (h.read k hk (copied.resolve_right now))
        unfold oamCell
        omega
    · exact (Memory.read_write_other _ _ (free _ inPage (.inr rfl))).trans
        (h.rest c fun k hk copied => free k hk (.inl copied))
  · rw [if_neg inPage]
    exact h.congr fun k hk => by
      have : k ≠ t.dma.index := by omega
      tauto

end State.OamCopied

/-! ## The steps (R341) -/

theorem State.dmaCopyOne_shadow (s : State) : s.dmaCopyOne.dma.shadow = s.dma.shadow := by
  unfold State.dmaCopyOne; split <;> rfl

theorem State.dmaCopyOne_index {s : State} (h : s.dma.index < 160) :
    s.dmaCopyOne.dma.index = s.dma.index + 1 := by
  unfold State.dmaCopyOne
  rw [if_pos h]
  rfl

section
variable {s : State}

theorem State.dmaStep_of_restarted (h : s.dma.state = .requested) (again : s.dma.shadow = .running) :
    s.dmaStep = s.dmaCopyOne.withDma { s.dmaCopyOne.dma with state := .settingUp } := by
  unfold State.dmaStep
  rw [h]
  dsimp only
  rw [if_pos again]

theorem State.dmaStep_of_requested (h : s.dma.state = .requested) (first : s.dma.shadow ≠ .running) :
    s.dmaStep = s.withDma { s.dma with state := .settingUp } := by
  unfold State.dmaStep
  rw [h]
  dsimp only
  rw [if_neg first]

theorem State.dmaStep_of_settingUp (h : s.dma.state = .settingUp) :
    s.dmaStep = s.withDma { s.dma with state := .running, index := 0, shadow := .settingUp } := by
  unfold State.dmaStep
  rw [h]

theorem State.dmaStep_of_running (h : s.dma.state = .running) :
    s.dmaStep = s.dmaCopyOne.withDma { s.dmaCopyOne.dma with
      shadow := .running, state := if s.dmaCopyOne.dma.index = 160 then .stopped else .running } := by
  unfold State.dmaStep
  rw [h]

theorem State.dmaStep_of_stopped (h : s.dma.state = .stopped) :
    s.dmaStep = s.withDma { s.dma with shadow := .stopped } := by
  unfold State.dmaStep
  rw [h]

end

/-- The bytes copied after `n` steps; `again` is that the transfer restarts one that had come to the byte `old`. -/
def OamDma.CopiedAfter (again : Prop) (old n k : Nat) : Prop := k + 2 < n ∨ again ∧ 0 < n ∧ k = old

theorem OamDma.not_copiedAfter_zero {again : Prop} {old k : Nat} : ¬ OamDma.CopiedAfter again old 0 k := by
  simp [OamDma.CopiedAfter]

theorem OamDma.copiedAfter_one {again : Prop} {old k : Nat} :
    OamDma.CopiedAfter again old 1 k ↔ again ∧ k = old := by
  simp [OamDma.CopiedAfter]

theorem OamDma.copiedAfter_succ {again : Prop} {old n k : Nat} (h : 0 < n) :
    OamDma.CopiedAfter again old (n + 1) k ↔ OamDma.CopiedAfter again old n k ∨ k + 2 = n := by
  have bytes : k + 2 < n + 1 ↔ k + 2 < n ∨ k + 2 = n := by omega
  simp only [OamDma.CopiedAfter, bytes, h, Nat.succ_pos, true_and]
  exact or_right_comm

/-- Where the engine stands `n` steps after the write that starts it. -/
structure State.OamDmaAt (s : State) (again : Prop) (old n : Nat) (t : State) : Prop where
  copied  : s.OamCopied (OamDma.CopiedAfter again old n) t
  started : n = 0 → t.dma.state = .requested ∧ t.dma.index = old
  setsUp  : n = 1 → t.dma.state = .settingUp
  shadow  : n < 2 → (t.dma.shadow = .running ↔ again)
  runs    : 2 ≤ n → n < 162 → t.dma.state = .running ∧ t.dma.index = n - 2
  stopped : 162 ≤ n → t.dma.state = .stopped ∧ (t.dma.shadow = .running ↔ n = 162)

theorem State.OamDmaAt.step {s t : State} {again : Prop} {old n : Nat} (h : s.OamDmaAt again old n t) :
    s.OamDmaAt again old (n + 1) t.dmaStep := by
  obtain ⟨copied, started, setsUp, shadow, runs, stopped⟩ := h
  rcases (by omega : n = 0 ∨ n = 1 ∨ 2 ≤ n ∧ n < 162 ∨ 162 ≤ n) with rfl | rfl | ⟨low, high⟩ | past
  · obtain ⟨state, index⟩ := started rfl
    have shadow := shadow (by omega)
    by_cases restart : again
    · rw [State.dmaStep_of_restarted state (shadow.2 restart)]
      refine ⟨.congr (copied.dmaCopyOne.withDma rfl) fun k _ => ?_, by omega, fun _ => rfl, fun _ => ?_,
        by omega, by omega⟩
      · rw [index, OamDma.copiedAfter_one, or_iff_right OamDma.not_copiedAfter_zero]
        exact (and_iff_right restart).symm
      · exact (iff_of_eq (congrArg (· = TransferState.running) t.dmaCopyOne_shadow)).trans shadow
    · rw [State.dmaStep_of_requested state (mt shadow.1 restart)]
      refine ⟨.congr (copied.withDma rfl) fun k _ => ?_, by omega, fun _ => rfl, fun _ => shadow,
        by omega, by omega⟩
      rw [OamDma.copiedAfter_one]
      exact iff_of_false OamDma.not_copiedAfter_zero fun h => restart h.1
  · rw [State.dmaStep_of_settingUp (setsUp rfl)]
    refine ⟨.congr (copied.withDma rfl) fun k _ => ?_, by omega, by omega, by omega, fun _ _ => ⟨rfl, rfl⟩,
      by omega⟩
    rw [OamDma.copiedAfter_succ Nat.one_pos, or_iff_left (by omega)]
  · obtain ⟨state, index⟩ := runs low high
    have next : t.dmaCopyOne.dma.index = n - 1 := by
      rw [State.dmaCopyOne_index (by omega), index]
      omega
    rw [State.dmaStep_of_running state, next]
    refine ⟨.congr (copied.dmaCopyOne.withDma rfl) fun k _ => ?_, by omega, by omega, by omega, fun _ more => ?_,
      fun last => ?_⟩
    · have now : k = t.dma.index ↔ k + 2 = n := by omega
      rw [OamDma.copiedAfter_succ (by omega), now]
    · exact ⟨if_neg (by omega), next⟩
    · exact ⟨if_pos (by omega), iff_of_true rfl (by omega)⟩
  · obtain ⟨state, -⟩ := stopped past
    rw [State.dmaStep_of_stopped state]
    refine ⟨.congr (copied.withDma rfl) fun k hk => ?_, by omega, by omega, by omega, by omega, fun _ =>
      ⟨state, iff_of_false nofun (by omega)⟩⟩
    rw [OamDma.copiedAfter_succ (by omega), or_iff_left (by omega)]

theorem State.OamDmaAt.iterate {s : State} {again : Prop} {old : Nat} (h : s.OamDmaAt again old 0 s) (n : Nat) :
    s.OamDmaAt again old n (State.dmaStep^[n] s) := by
  induction n with
  | zero => exact h
  | succ n ih =>
    rw [Function.iterate_succ_apply']
    exact ih.step

theorem State.OamCopied.refl {s : State} (wf : s.mem.wf) {P : Nat → Prop} (none : ∀ k, ¬ P k) :
    s.OamCopied P s where
  only := rfl
  page := rfl
  wf := wf
  read k _ copied := absurd copied (none k)
  rest _ _ := rfl

/-- Settles O53. -/
theorem oamDmaTransfer : Obligations.OamDmaTransfer := by
  unfold Obligations.OamDmaTransfer
  intro s page n wf s0 t again copied
  have start : s0 = s.withDma (s.dma.start page) :=
    s.busWrite_reg page (n := 0xFF46) (r := .dma) (extra := false) (by decide) nofun
  have at_ : s0.OamDmaAt again s.dma.index n t := by
    refine State.OamDmaAt.iterate ⟨.refl ?_ fun _ => OamDma.not_copiedAfter_zero, ?_, ?_, ?_, ?_, ?_⟩ n
    · rw [start]; exact wf
    · rw [start]; exact fun _ => ⟨rfl, rfl⟩
    · omega
    · rw [start]; exact fun _ => Iff.rfl
    · omega
    · omega
  obtain ⟨bytes, started, setsUp, shadow, runs, stopped⟩ := at_
  have readPage : s0.dma.page = page := by rw [start]; rfl
  have memory : s0.mem = s.mem := by rw [start]; rfl
  have blocks : t.dmaBlocksOam = true ↔ t.dma.state = .running ∨ t.dma.shadow = .running := by
    simp [State.dmaBlocksOam]
  refine ⟨?_, ?_, fun k hk => ?_, fun c free => ?_⟩
  · rw [blocks]
    rcases (by omega : n = 0 ∨ n = 1 ∨ 2 ≤ n ∧ n < 162 ∨ 162 ≤ n) with first | second | ⟨low, high⟩ | past
    · rw [(started first).1, shadow (by omega)]
      simp [first]
    · rw [setsUp second, shadow (by omega)]
      simp [second]
    · exact iff_of_true (.inl (runs low high).1) ⟨.inr low, by omega⟩
    · rw [(stopped past).1, (stopped past).2]
      refine ⟨fun h => ?_, fun h => .inr (by omega)⟩
      have : n = 162 := h.resolve_left nofun
      exact ⟨.inr (by omega), by omega⟩
  · refine ⟨fun state => ?_, fun past => (stopped past).1⟩
    by_contra before
    rcases (by omega : n = 0 ∨ n = 1 ∨ 2 ≤ n) with first | second | low
    · cases state.symm.trans (started first).1
    · cases state.symm.trans (setsUp second)
    · cases state.symm.trans (runs low (by omega)).1
  · have byte := bytes.read k hk.1 hk.2
    rwa [OamDma.sourceOf, readPage] at byte
  · exact (bytes.rest c fun k hk done => free k ⟨hk, done⟩).trans (congrArg (Memory.read · c) memory)

end Sys2Proof.Machine
end

section
/-! SUPPORT. HDMA transfers (spec/60_exceptions.md section 7), as what the engine has copied after each step. -/

namespace Sys2Proof.Machine

/-! ## The copies (R347) -/

theorem State.le_of_route_io {s : State} {a : Word} (h : s.route a = .io) : 0xFF00 ≤ a.toNat := by
  unfold State.route at h
  dsimp only at h
  split_ifs at h
  omega

/-- The destination stays in video memory. -/
theorem hdma_wrap_toNat (w : Word) : ((0x8000 : Word) ||| (w &&& 0x1FFF)).toNat = 0x8000 + w.toNat % 0x2000 := by
  have low : (w &&& 0x1FFF).toNat = w.toNat % 0x2000 := by
    rw [BitVec.toNat_and]
    exact Nat.and_two_pow_sub_one_eq_mod _ 13
  have join := Nat.two_pow_add_eq_or_of_lt (i := 15) (b := w.toNat % 0x2000) (by omega) 1
  rw [BitVec.toNat_or, low]
  exact join.symm

/-- The cell of byte `k` of a transfer. -/
def State.hdmaCell (s : State) (k : Nat) : Nat := s.vramBank * 0x10000 + 0x8000 + (s.hdma.dst.toNat + k) % 0x2000

/-- Byte `k` comes from the cartridge, from working RAM or from OAM. -/
def State.HdmaSource (s : State) (k : Nat) : Prop :=
  (s.hdma.src + BitVec.ofNat 16 k).toNat < 0x8000
    ∨ 0xA000 ≤ (s.hdma.src + BitVec.ofNat 16 k).toNat ∧ (s.hdma.src + BitVec.ofNat 16 k).toNat < 0xFEA0

/-- `t` differs from `s` in what HDMA has done: the first `n` bytes are copied. -/
structure State.HdmaCopied (s : State) (n : Nat) (t : State) : Prop where
  only : t = (s.withMem t.mem).withHdma t.hdma
  src  : t.hdma.src = s.hdma.src + BitVec.ofNat 16 n
  dst  : t.hdma.dst.toNat = 0x8000 + (s.hdma.dst.toNat + n) % 0x2000
  wf   : t.mem.wf
  read : ∀ k, k < n → t.mem.read (s.hdmaCell k) = s.rawRead .hdma (s.hdma.src + BitVec.ofNat 16 k)
  rest : ∀ c, (∀ k, k < n → c ≠ s.hdmaCell k) → t.mem.read c = s.mem.read c

namespace State.HdmaCopied
variable {s t : State} {n : Nat}

theorem refl (wf : s.mem.wf) (low : 0x8000 ≤ s.hdma.dst.toNat) (high : s.hdma.dst.toNat < 0xA000) :
    s.HdmaCopied 0 s where
  only := rfl
  src := (BitVec.add_zero _).symm
  dst := by omega
  wf := wf
  read _ h := absurd h (Nat.not_lt_zero _)
  rest _ _ := rfl

theorem withHdma (h : s.HdmaCopied n t) {d : Hdma} (src : d.src = t.hdma.src) (dst : d.dst = t.hdma.dst) :
    s.HdmaCopied n (t.withHdma d) where
  only := by rw [h.only]; rfl
  src := src.trans h.src
  dst := (congrArg BitVec.toNat dst).trans h.dst
  wf := h.wf
  read := h.read
  rest := h.rest

theorem params (h : s.HdmaCopied n t) : t.params = s.params := by
  rw [h.only]; rfl

theorem ppu (h : s.HdmaCopied n t) : t.ppu = s.ppu := by
  rw [h.only]; rfl

/-- The source is not in video memory, so it is read as it was at the start. -/
theorem source (h : s.HdmaCopied n t) (ok : s.HdmaSource n) :
    t.rawRead .hdma t.hdma.src = s.rawRead .hdma (s.hdma.src + BitVec.ofNat 16 n) := by
  rw [h.src]
  have vram := s.vramBank_le
  refine State.rawRead_congr _ h.params (by rw [h.only]; rfl) (by rw [h.only]; rfl) (fun io => ?_)
    (fun j cell => ?_) fun rom => ?_
  · have := State.le_of_route_io io
    unfold State.HdmaSource at ok
    omega
  · refine h.rest j fun k _ => ?_
    have wram := s.wramBank_range
    rw [State.routedCell_eq_some] at cell
    unfold State.HdmaSource at ok
    unfold State.hdmaCell
    unfold vramCell wramCell at cell
    split at cell <;> omega
  · refine h.rest _ fun k _ => ?_
    unfold State.hdmaCell
    omega

theorem hdmaCopyOne (h : s.HdmaCopied n t) (ok : s.HdmaSource n) (short : n < 0x2000) :
    s.HdmaCopied (n + 1) t.hdmaCopyOne := by
  have cell : vramCell t.vramBank t.hdma.dst.toNat = s.hdmaCell n := by
    have bank : t.vramBank = s.vramBank := by rw [h.only]; rfl
    rw [vramCell, State.hdmaCell, bank, h.dst]
    omega
  have other (k : Nat) (hk : k < n) : s.hdmaCell k ≠ s.hdmaCell n := by
    unfold State.hdmaCell
    omega
  unfold State.hdmaCopyOne
  rw [cell, h.source ok]
  refine ⟨by rw [h.only]; rfl, ?_, ?_, Memory.write_wf h.wf _ _, fun k hk => ?_, fun c free => ?_⟩
  · change t.hdma.src + 1 = _
    rw [h.src, BitVec.add_assoc, BitVec.ofNat_add]
    rfl
  · refine (hdma_wrap_toNat _).trans ?_
    rw [BitVec.toNat_add, h.dst]
    simp only [BitVec.ofNat_eq_ofNat, BitVec.toNat_ofNat]
    omega
  · by_cases now : k = n
    · rw [now]
      exact Memory.read_write_self h.wf _ _
    · have earlier : k < n := by omega
      exact (Memory.read_write_other _ _ (other k earlier)).trans (h.read k earlier)
  · exact (Memory.read_write_other _ _ (free n (Nat.lt_succ_self n))).trans
      (h.rest c fun k hk => free k (Nat.lt_succ_of_lt hk))

theorem hdmaCopyTwo (h : s.HdmaCopied n t) (ok : s.HdmaSource n) (ok' : s.HdmaSource (n + 1))
    (short : n + 1 < 0x2000) : s.HdmaCopied (n + 2) t.hdmaCopyTwo :=
  ((h.hdmaCopyOne ok (by omega)).hdmaCopyOne ok' short).withHdma rfl rfl

end State.HdmaCopied

/-! ## General-purpose transfers (R346) -/

theorem State.hdmaStep_of_general {s : State} (enhanced : s.params.enhanced = true)
    (running : s.hdma.state = .running) (general : s.hdma.mode = .general) : s.hdmaStep = s.hdmaGeneralStep := by
  unfold State.hdmaStep
  rw [if_pos enhanced, running]
  dsimp only
  rw [general]

theorem State.hdmaGeneralStep_eq (s : State) : s.hdmaGeneralStep = s.hdmaCopyTwo.withHdma { s.hdmaCopyTwo.hdma with
    state := if s.hdma.total - 2 = 0 then .stopped else s.hdma.state } := by
  unfold State.hdmaGeneralStep
  change (if s.hdma.total - 2 = 0 then _ else _ : State) = _
  split <;> rfl

/-- Where a general-purpose transfer stands after `n` steps. -/
structure State.HdmaBurst (s : State) (n : Nat) (t : State) : Prop where
  copied : s.HdmaCopied (2 * n) t
  total  : t.hdma.total = s.hdma.total - 2 * n
  mode   : t.hdma.mode = .general
  state  : t.hdma.state = if 2 * n < s.hdma.total then .running else .stopped

theorem State.HdmaBurst.step {s t : State} {n : Nat} (h : s.HdmaBurst n t) (enhanced : s.params.enhanced = true)
    (more : 2 * (n + 1) ≤ s.hdma.total) (short : s.hdma.total ≤ 2048)
    (sources : ∀ k, k < s.hdma.total → s.HdmaSource k) : s.HdmaBurst (n + 1) t.hdmaStep := by
  obtain ⟨copied, total, mode, state⟩ := h
  have running : t.hdma.state = .running := state.trans (if_pos (by omega))
  have two := copied.hdmaCopyTwo (sources _ (by omega)) (sources _ (by omega)) (by omega)
  rw [State.hdmaStep_of_general (copied.params ▸ enhanced) running mode, State.hdmaGeneralStep_eq, running, total]
  refine ⟨two.withHdma rfl rfl, ?_, mode, ?_⟩
  · change t.hdma.total - 2 = _
    omega
  · change (if s.hdma.total - 2 * n - 2 = 0 then TransferState.stopped else .running) = _
    split
    · rw [if_neg (by omega)]
    · rw [if_pos (by omega)]

/-- Settles O54, by induction on the steps. -/
theorem hdmaCopiesItsBytes : Obligations.HdmaCopiesItsBytes := by
  unfold Obligations.HdmaCopiesItsBytes
  intro s wf enhanced running general some_ even short low high sources t cell
  have steps (n : Nat) (within : 2 * n ≤ s.hdma.total) : s.HdmaBurst n (State.hdmaStep^[n] s) := by
    induction n with
    | zero => exact ⟨.refl wf low high, rfl, general, running.trans (if_pos some_).symm⟩
    | succ n ih =>
      rw [Function.iterate_succ_apply']
      exact (ih (by omega)).step enhanced within short sources
  have all : 2 * (s.hdma.total / 2) = s.hdma.total := by omega
  obtain ⟨copied, total, -, state⟩ := steps (s.hdma.total / 2) (by omega)
  rw [all] at copied total state
  exact ⟨state.trans (if_neg (lt_irrefl _)), total.trans (Nat.sub_self _), copied.src, copied.dst, copied.read,
    copied.rest⟩

end Sys2Proof.Machine
end

section
/-! SUPPORT. HBlank-gated HDMA: the eight steps that copy a block (spec/60_exceptions.md section 7). -/

namespace Sys2Proof.Machine

theorem State.hdmaStep_of_hblank {s : State} (enhanced : s.params.enhanced = true)
    (running : s.hdma.state = .running) (gated : s.hdma.mode = .hblank) : s.hdmaStep = s.hdmaHBlankStep := by
  unfold State.hdmaStep
  rw [if_pos enhanced, running]
  dsimp only
  rw [gated]

theorem State.hdmaStep_of_stopped {s : State} (stopped : s.hdma.state = .stopped) : s.hdmaStep = s := by
  unfold State.hdmaStep
  rw [stopped]
  exact ite_self s

section
variable {s : State}

theorem State.hdmaHBlankStep_of_armed (waits : s.hdma.sub = .awaitingHBlank) (hblank : s.ppu.mode = .hblank) :
    s.hdmaHBlankStep = (s.withHdma { s.hdma with sub := .copying, block := 16 }).hdmaBlockStep := by
  unfold State.hdmaHBlankStep State.hdmaArm
  rw [if_pos ⟨waits, hblank⟩]
  rfl

theorem State.hdmaHBlankStep_of_copying (copying : s.hdma.sub = .copying) : s.hdmaHBlankStep = s.hdmaBlockStep := by
  unfold State.hdmaHBlankStep State.hdmaArm
  rw [if_neg (by rw [copying]; nofun)]
  dsimp only
  rw [copying]

theorem State.hdmaHBlankStep_of_finished (finished : s.hdma.sub = .finishedLine) : s.hdmaHBlankStep =
    if s.ppu.mode = .hblank then s else s.withHdma { s.hdma with sub := .awaitingHBlank } := by
  unfold State.hdmaHBlankStep State.hdmaArm
  rw [if_neg (by rw [finished]; nofun)]
  dsimp only
  rw [finished]

/-- After a block, once HBlank has ended, the engine is ready for the next. -/
theorem State.hdmaStep_of_lineEnded (enhanced : s.params.enhanced = true) (running : s.hdma.state = .running)
    (gated : s.hdma.mode = .hblank) (finished : s.hdma.sub = .finishedLine) (ended : s.ppu.mode ≠ .hblank) :
    s.hdmaStep.hdma = { s.hdma with sub := .awaitingHBlank } := by
  rw [State.hdmaStep_of_hblank enhanced running gated, State.hdmaHBlankStep_of_finished finished, if_neg ended]
  rfl

/-- A copying step: two bytes, and then the engine stops, waits for the line's end, or goes on. -/
theorem State.hdmaBlockStep_eq (s : State) : s.hdmaBlockStep = s.hdmaCopyTwo.withHdma { s.hdmaCopyTwo.hdma with
    block := s.hdma.block - 2
    state := if s.hdma.total - 2 = 0 then .stopped else s.hdma.state
    sub := if s.hdma.total - 2 ≠ 0 ∧ s.hdma.block - 2 = 0 then .finishedLine else s.hdma.sub } := by
  unfold State.hdmaBlockStep
  change (if s.hdma.total - 2 = 0 then _ else if s.hdma.block - 2 = 0 then _ else _ : State) = _
  by_cases last : s.hdma.total - 2 = 0
  · rw [if_pos last, if_pos last, if_neg fun h => h.1 last]
    rfl
  · rw [if_neg last, if_neg last]
    by_cases line : s.hdma.block - 2 = 0
    · rw [if_pos line, if_pos ⟨last, line⟩]
      rfl
    · rw [if_neg line, if_neg fun h => line h.2]
      rfl

end

/-- Where a block stands after `n` of its copying steps. -/
structure State.HdmaBlock (s : State) (n : Nat) (t : State) : Prop where
  copied : s.HdmaCopied (2 * n) t
  total  : t.hdma.total = s.hdma.total - 2 * n
  block  : t.hdma.block = 16 - 2 * n
  mode   : t.hdma.mode = .hblank
  state  : t.hdma.state = if 2 * n < s.hdma.total then .running else .stopped
  sub    : t.hdma.sub = if n = 8 ∧ 16 < s.hdma.total then .finishedLine else .copying

theorem State.HdmaBlock.copy {s t : State} {n : Nat} (h : s.HdmaBlock n t) (more : n < 8)
    (whole : 16 ≤ s.hdma.total) (sources : ∀ k, k < 16 → s.HdmaSource k) :
    s.HdmaBlock (n + 1) t.hdmaBlockStep := by
  obtain ⟨copied, total, block, mode, state, sub⟩ := h
  have running : t.hdma.state = .running := state.trans (if_pos (by omega))
  have copying : t.hdma.sub = .copying := sub.trans (if_neg (by omega))
  have two := copied.hdmaCopyTwo (sources _ (by omega)) (sources _ (by omega)) (by omega)
  rw [State.hdmaBlockStep_eq, running, copying, total, block]
  refine ⟨two.withHdma rfl rfl, ?_, ?_, mode, ?_, ?_⟩
  · change t.hdma.total - 2 = _
    omega
  · change 16 - 2 * n - 2 = _
    omega
  · change (if s.hdma.total - 2 * n - 2 = 0 then TransferState.stopped else .running) = _
    split
    · rw [if_neg (by omega)]
    · rw [if_pos (by omega)]
  · exact if_congr (by omega) rfl rfl

/-- Settles O55, by induction on the copying steps. -/
theorem hdmaCopiesOneBlockPerHBlank : Obligations.HdmaCopiesOneBlockPerHBlank := by
  unfold Obligations.HdmaCopiesOneBlockPerHBlank
  intro s n wf enhanced running gated waits hblank whole low high sources t cell
  have first : s.HdmaBlock 1 s.hdmaStep := by
    rw [State.hdmaStep_of_hblank enhanced running gated, State.hdmaHBlankStep_of_armed waits hblank]
    refine State.HdmaBlock.copy (n := 0) ⟨(State.HdmaCopied.refl wf low high).withHdma rfl rfl, rfl, rfl, gated,
      ?_, ?_⟩ (by omega) whole sources
    · exact running.trans (if_pos (by omega)).symm
    · exact (if_neg (by omega)).symm
  have steps (k : Nat) (within : k < 8) : s.HdmaBlock (k + 1) (State.hdmaStep^[k] s.hdmaStep) := by
    induction k with
    | zero => exact first
    | succ k ih =>
      have before := ih (by omega)
      have copying := before.sub.trans (if_neg (by omega))
      have running := before.state.trans (if_pos (by omega))
      rw [Function.iterate_succ_apply', State.hdmaStep_of_hblank (before.copied.params ▸ enhanced) running
        before.mode, State.hdmaHBlankStep_of_copying copying]
      exact before.copy within whole sources
  obtain ⟨copied, total, -, mode, state, sub⟩ : s.HdmaBlock 8 t := steps 7 (by omega)
  have enhanced' : t.params.enhanced = true := copied.params ▸ enhanced
  have hblank' : t.ppu.mode = .hblank := copied.ppu ▸ hblank
  have goesOn (more : 16 < s.hdma.total) : t.hdma.state = .running ∧ t.hdma.sub = .finishedLine :=
    ⟨state.trans (if_pos more), sub.trans (if_pos ⟨rfl, more⟩)⟩
  have stops (last : s.hdma.total = 16) : t.hdma.state = .stopped := state.trans (if_neg (by omega))
  have still : t.hdmaStep = t := by
    rcases (by omega : s.hdma.total = 16 ∨ 16 < s.hdma.total) with last | more
    · exact State.hdmaStep_of_stopped (stops last)
    · obtain ⟨running, finished⟩ := goesOn more
      rw [State.hdmaStep_of_hblank enhanced' running mode, State.hdmaHBlankStep_of_finished finished,
        if_pos hblank']
  refine ⟨total, copied.src, copied.dst, copied.read, copied.rest, Function.iterate_fixed still n, stops,
    fun more => ?_⟩
  obtain ⟨running, finished⟩ := goesOn more
  refine ⟨running, finished, fun m ended => ?_⟩
  exact State.hdmaStep_of_lineEnded (s := t.withPpu { t.ppu with mode := m }) enhanced' running mode finished ended

/-! ## The burst that freezes the CPU (R349, R350) -/

theorem State.hdmaHaltsCpu_iff (s : State) : s.hdmaHaltsCpu = true ↔
    s.params.enhanced = true ∧ s.hdma.state = .running ∧ s.hdma.mode = .general := by
  simp [State.hdmaHaltsCpu, and_assoc]

theorem State.thaw_of_halts {s : State} (n : Nat) (h : s.hdmaHaltsCpu = true) :
    State.thaw (n + 1) s = State.thaw n s.endTick.applyInputs := by
  rw [State.thaw, if_pos h]

theorem State.thaw_of_awake {s : State} (n : Nat) (h : s.hdmaHaltsCpu = false) : State.thaw n s = s := by
  cases n with
  | zero => rfl
  | succ n => rw [State.thaw, h, if_neg Bool.false_ne_true]

theorem State.applyInputs_params (s : State) : s.applyInputs.params = s.params :=
  congrArg Settings.params s.applyInputs_frame.settings

/-- In a frozen tick two bytes are copied, and after the last the engine stops. -/
theorem State.frozenTick {s : State} (frozen : s.hdmaHaltsCpu = true) :
    s.endTick.applyInputs.params.enhanced = true ∧ s.endTick.applyInputs.hdma.mode = .general
      ∧ s.endTick.applyInputs.hdma.total = s.hdma.total - 2
      ∧ s.endTick.applyInputs.hdma.state = (if s.hdma.total - 2 = 0 then .stopped else .running)
      ∧ s.endTick.applyInputs.elapsedCycles = s.elapsedCycles + 4 := by
  obtain ⟨enhanced, running, general⟩ := s.hdmaHaltsCpu_iff.1 frozen
  have same := s.dmaStep_hdma
  rw [State.applyInputs_params, State.applyInputs_elapsed, s.endTick.applyInputs_transfers.2, State.endTick_params,
    State.endTick_elapsed, State.endTick_hdma, State.hdmaStep_of_general (s.dmaStep_params ▸ enhanced)
    (same ▸ running) (same ▸ general), State.hdmaGeneralStep_eq, same, running]
  exact ⟨enhanced, (congrArg Hdma.mode same).trans general, congrArg (·.total - 2) same, rfl, rfl⟩

/-- A burst of `2 * (n + 1)` bytes freezes `n + 1` ticks. -/
theorem State.thaw_burst (n : Nat) {s : State} (frozen : s.hdmaHaltsCpu = true)
    (total : s.hdma.total = 2 * (n + 1)) :
    (State.thaw (n + 2) s).elapsedCycles = s.elapsedCycles + 4 * (n + 1)
      ∧ (State.thaw (n + 2) s).hdma.state = .stopped := by
  induction n generalizing s with
  | zero =>
    obtain ⟨-, -, -, state, elapsed⟩ := State.frozenTick frozen
    have stopped := state.trans (if_pos (by omega))
    rw [State.thaw_of_halts _ frozen, State.thaw_of_awake _ (by simp [State.hdmaHaltsCpu, stopped])]
    exact ⟨elapsed, stopped⟩
  | succ n ih =>
    obtain ⟨enhanced, general, left, state, elapsed⟩ := State.frozenTick frozen
    have running := state.trans (if_neg (by omega))
    obtain ⟨later, stopped⟩ := ih ((State.hdmaHaltsCpu_iff _).2 ⟨enhanced, running, general⟩) (by omega)
    rw [State.thaw_of_halts _ frozen]
    exact ⟨by omega, stopped⟩

/-- Settles O56. -/
theorem hdmaFreezesTheCpu : Obligations.HdmaFreezesTheCpu := by
  unfold Obligations.HdmaFreezesTheCpu
  intro s enhanced running general some_ even
  have transfer := s.applyInputs_transfers.2
  obtain ⟨n, total⟩ : ∃ n, s.hdma.total = 2 * (n + 1) := ⟨s.hdma.total / 2 - 1, by omega⟩
  obtain ⟨elapsed, stopped⟩ := State.thaw_burst n (s := s.applyInputs)
    (s.applyInputs_halts.trans (s.hdmaHaltsCpu_iff.2 ⟨enhanced, running, general⟩)) (transfer ▸ total)
  have start : s.startTick = State.thaw (n + 2) s.applyInputs := by
    rw [State.startTick, total, Nat.mul_div_cancel_left _ Nat.two_pos]
  rw [State.applyInputs_elapsed, ← start] at elapsed
  refine ⟨s.startTick_cpu, elapsed.trans ?_, s.startTick_awake, start ▸ stopped, s.startTick_frame.stores⟩
  omega

end Sys2Proof.Machine
end
